-- ==== Sys2Proof/Word.lean ====
section
/-! DEFINITION. The two widths of the machine: a byte for A, X, Y, S and every memory cell, and a word for PC and every
address (`10_state.md` R10, R16; `20_memory.md` R40). -/

namespace Sys2Proof

/-- A byte, 8 bits (R10: `DATA_WIDTH`). -/
abbrev Byte := BitVec 8

/-- A word or address, 16 bits (R16, R40: `ADDR_WIDTH`). -/
abbrev Word := BitVec 16

end Sys2Proof
end

