-- ==== Sys2Proof/Config.lean ====
section
/-! DEFINITION. What an implementation fixes and the spec leaves open: the free values, one for each `draw` of the spec
(`00_scope.md`, notation `draw(T)`). They have no body, so nothing can be proved of a particular one. State's counter
`draws` says which is the next one (logs 4, 7, 8, 11). -/

namespace Sys2Proof

/-- The `k`-th free byte: the result of XAA (R240), a byte read from unmapped space or from a device (R41, D7), a
register after a RESET taken in a run (R350). -/
opaque Config.freeByte : Nat → Byte

/-- The `k`-th free bit: a flag after a RESET taken in a run (R350). -/
opaque Config.freeBit : Nat → Bool

end Sys2Proof
end

