-- ==== Sys2Proof/Machine/Bytes.lean ====
section
/-! DEFINITION. The byte-order, sign-extension and address helpers of `00_scope.md` section 6.1. -/

namespace Sys2Proof.Machine

/-- `hi : lo`, the 16-bit value hi * 256 + lo (`30_encoding.md` R75, `20_memory.md` R42). -/
def word (hi lo : Byte) : Word := hi ++ lo

/-- `hi(w)`, bits 15..8 (PCH of a program counter, R16). -/
def hiByte (w : Word) : Byte := w.extractLsb' 8 8

/-- `lo(w)`, bits 7..0 (PCL of a program counter, R16). -/
def loByte (w : Word) : Byte := w.extractLsb' 0 8

/-- `zext_16(b)`. -/
def zext16 (b : Byte) : Word := b.setWidth 16

/-- `sext_16(b)`: b if b < 128, else b + $FF00. -/
def sext16 (b : Byte) : Word := b.signExtend 16

/-- A one-byte address names an address of page 0 (`20_memory.md` R47, R75). -/
def zeroPage (b : Byte) : Word := zext16 b

/-- The stack location that S selects: `$0100 + S` (`20_memory.md` R46). -/
def stackAddress (sp : Byte) : Word := 0x0100#16 + zext16 sp

/-- The NMI vector (`20_memory.md` R48). -/
def nmiVector : Word := 0xFFFA#16

/-- The RESET vector (`20_memory.md` R48). -/
def resetVector : Word := 0xFFFC#16

/-- The IRQ and BRK vector (`20_memory.md` R48). -/
def irqVector : Word := 0xFFFE#16

end Sys2Proof.Machine
end

