-- ==== Sys2Proof/Machine/Memory.lean ====
section
/-! DEFINITION. Memory as a canonical list of cells, and the memory map (`20_memory.md` R40, R41, R49; D7). -/

namespace Sys2Proof.Machine

/-- The content of the 64 KiB space (R40): (address, byte) pairs, addresses strictly rising, no byte that an unlisted
address reads as. -/
abbrev Memory := List Host.Cell

/-- What an address that is not listed reads as. The spec leaves the initial content to the platform (R36, R352, D7).
DESIGN CHOICE (log 5), unsafe. -/
def unlisted : Byte := 0x00#8

/-- The byte stored at an address. -/
def Memory.read : Memory → Nat → Byte
  | [], _ => unlisted
  | (b, w) :: m, a => if b = a then w else Memory.read m a

/-- Storing a byte, keeping the canonical form. -/
def Memory.write : Memory → Nat → Byte → Memory
  | [], a, v => if v = unlisted then [] else [(a, v)]
  | (b, w) :: m, a, v =>
    if a < b then (if v = unlisted then (b, w) :: m else (a, v) :: (b, w) :: m)
    else if a = b then (if v = unlisted then m else (a, v) :: m)
    else (b, w) :: Memory.write m a v

/-- The canonical form: addresses of the 64 KiB space (R40), strictly rising, none listed with the unlisted byte. -/
abbrev Memory.wf (m : Memory) : Prop :=
  m.Pairwise (fun c d => c.1 < d.1) ∧ ∀ c ∈ m, c.1 < 65536 ∧ c.2 ≠ unlisted

/-- What answers at an address (D7: RAM, ROM, a device, or nothing). -/
inductive RegionKind where
  /-- plain RAM: a read returns the byte last written (R41) -/
  | ram
  /-- ROM: reads as memory, a write has no effect (93, UNMAPPED_MEMORY) -/
  | rom
  /-- a device, an agent of the environment (R57): a read returns what it answers, every access is visible -/
  | device
  /-- nothing answers: a read gives any value, a write has no effect (93, UNMAPPED_MEMORY) -/
  | unmapped
deriving DecidableEq, Repr

/-- A region of the memory map: the addresses `first` to `last`, both included. -/
structure Region where
  /-- its lowest address -/
  first : Nat
  /-- its highest address -/
  last : Nat
  /-- what answers there -/
  kind : RegionKind
deriving DecidableEq, Repr

/-- What answers at an address under a map: the first region that holds it, and RAM where none does (D7's default for a
bare model; log 6). -/
def kindAt : List Region → Word → RegionKind
  | [], _ => .ram
  | r :: rs, a => if r.first ≤ a.toNat ∧ a.toNat ≤ r.last then r.kind else kindAt rs a

end Sys2Proof.Machine
end

