-- ==== Sys2Proof/Machine/State.lean ====
section
/-! DEFINITION. The state of the machine as plain data (`10_state.md`), the fault and refusal types, and the state right
after reset. -/

namespace Sys2Proof.Machine

/-- The processor status register P: six stored flags (`10_state.md` R18). Bit 5 and the B position are no state (R19). -/
structure Status where
  /-- P.N, bit 7 of the pushed byte -/
  n : Bool
  /-- P.V, bit 6 -/
  v : Bool
  /-- P.D, bit 3 -/
  d : Bool
  /-- P.I, bit 2 -/
  i : Bool
  /-- P.Z, bit 1 -/
  z : Bool
  /-- P.C, bit 0 -/
  c : Bool
deriving DecidableEq, Repr

/-- The sample of the three interrupt inputs at one instruction boundary (`60_exceptions.md` R312; D6). -/
structure Inputs where
  /-- RESET_INPUT is asserted (`10_state.md` R25) -/
  reset : Bool
  /-- a falling edge came on the NMI input since the last boundary (R24) -/
  nmi : Bool
  /-- IRQ_INPUT is asserted (R23) -/
  irq : Bool
deriving DecidableEq, Repr

/-- One access to a device, which the environment sees (D7). -/
inductive BusEvent where
  /-- the CPU read `value` from `addr` -/
  | read (addr : Word) (value : Byte)
  /-- the CPU wrote `value` to `addr` -/
  | write (addr : Word) (value : Byte)
deriving DecidableEq, Repr

/-- The whole state (`10_state.md` R27), with the parameters and inputs the spec makes a model take, and three fields of
the model's own (`draws`, `events`, `cycles`). -/
structure State where
  /-- the accumulator A (R11) -/
  a : Byte
  /-- index register X (R12) -/
  x : Byte
  /-- index register Y (R13) -/
  y : Byte
  /-- the stack pointer S (R14) -/
  sp : Byte
  /-- the program counter PC (R16) -/
  pc : Word
  /-- the processor status register P (R18) -/
  p : Status
  /-- the halted state that JAM enters (R22) -/
  halted : Bool
  /-- the NMI latch (R24) -/
  nmiPending : Bool
  /-- the content of memory (R40, R41) -/
  mem : Memory
  /-- MEMORY_MAP (R4, R49, D7); no step changes it -/
  map : List Region
  /-- the inputs at the coming boundaries, the next one first; none asserted past its end (D6; log 9) -/
  inputs : List Inputs
  /-- the model's own: how many free values have been drawn (log 4) -/
  draws : Nat
  /-- the model's own: the accesses to devices so far, latest first (D7; log 8) -/
  events : List BusEvent
  /-- the model's own: the clock cycles spent so far (`70_reset_and_hazards.md` R360; log 30) -/
  cycles : Nat
deriving DecidableEq, Repr

/-- The faults of the machine. There are none: the 6502 has no access, alignment, privilege or illegal-instruction
fault (`60_exceptions.md` R310), so the type has no constructor and nothing raises one. -/
inductive Fault where
deriving DecidableEq, Repr

/-- The refusals of the model. -/
inductive Refusal where
  /-- Raised only by an arm of `exec` whose instruction has no meaning yet; there is no such arm. Safe: a refused step
  proves nothing about the hardware. -/
  | notModelled (mnemonic : String)
deriving DecidableEq, Repr

/-- What one instruction answers. -/
abbrev Result := Host.Outcome State Fault Refusal

/-- The sample with no input asserted. -/
def Inputs.idle : Inputs := { reset := false, nmi := false, irq := false }

/-- The machine right after reset (`10_state.md` R30 to R36): I = 1 (R31), not halted and no NMI pending (R36), PC the
word at $FFFC of a memory with nothing listed (R32). A, X, Y, S, N, V, D, Z and C are unspecified (R30, R33 to R35); the
zeros here are DESIGN CHOICE, unsafe (logs 1, 2). -/
def State.reset : State where
  a := 0x00#8
  x := 0x00#8
  y := 0x00#8
  sp := 0x00#8
  pc := word (Memory.read [] (resetVector + 1).toNat) (Memory.read [] resetVector.toNat)
  p := { n := false, v := false, d := false, i := true, z := false, c := false }
  halted := false
  nmiPending := false
  mem := []
  map := []
  inputs := []
  draws := 0
  events := []
  cycles := 0

end Sys2Proof.Machine
end

