-- ==== Sys2Proof/Machine/Flags.lean ====
section
/-! DEFINITION. Every flag computation of the spec: the status byte, binary and decimal addition and subtraction, the
comparison, the shifts. Results are computed exactly on Nat or Int and narrowed at the end. -/

namespace Sys2Proof.Machine

/-- `PByte(b)`: P as the byte that is pushed, with bit 5 = 1 and the B position = `b` (`10_state.md` R20). -/
def Status.toByte (p : Status) (b : Bool) : Byte :=
  BitVec.ofNat 8 (p.n.toNat * 128 + p.v.toNat * 64 + 32 + b.toNat * 16 + p.d.toNat * 8 + p.i.toNat * 4
    + p.z.toNat * 2 + p.c.toNat)

/-- `SetP(v)`: P from a pulled byte, bits 5 and 4 ignored (`10_state.md` R21). -/
def Status.ofByte (v : Byte) : Status :=
  { n := v.getLsbD 7, v := v.getLsbD 6, d := v.getLsbD 3, i := v.getLsbD 2, z := v.getLsbD 1, c := v.getLsbD 0 }

/-- `SetNZ(v)` on P alone (`40_addressing.md` R115). -/
def Status.setNZ (p : Status) (v : Byte) : Status := { p with n := v.getLsbD 7, z := v == 0x00#8 }

/-- What an addition or subtraction computes: the new A and the four flags it writes. -/
structure ArithResult where
  /-- the new A -/
  value : Byte
  /-- P.N -/
  n : Bool
  /-- P.V -/
  v : Bool
  /-- P.Z -/
  z : Bool
  /-- P.C -/
  c : Bool
deriving DecidableEq, Repr

/-- ADC with D = 0 (`44_arith.md` R200). -/
def binaryAdc (a m : Byte) (c : Bool) : ArithResult :=
  let s := a.toNat + m.toNat + c.toNat
  let r := BitVec.ofNat 8 s
  { value := r, n := r.getLsbD 7, v := ((a ^^^ r) &&& (m ^^^ r) &&& 0x80#8) != 0x00#8, z := r == 0x00#8,
    c := decide (s > 255) }

/-- SBC with D = 0 (`44_arith.md` R210): the borrow is the complement of the carry. -/
def binarySbc (a m : Byte) (c : Bool) : ArithResult :=
  let s : Int := (a.toNat : Int) - m.toNat - (1 - c.toNat)
  let r := BitVec.ofInt 8 s
  { value := r, n := r.getLsbD 7, v := ((a ^^^ m) &&& (a ^^^ r) &&& 0x80#8) != 0x00#8, z := r == 0x00#8,
    c := decide (s ≥ 0) }

/-- The low decimal digit of a decimal addition, corrected, with its carry as $10 (`44_arith.md` R207: `al`). -/
def decimalAdcLow (a m : Byte) (c : Bool) : Nat :=
  let al := a.toNat % 16 + m.toNat % 16 + c.toNat
  if al ≥ 0x0A then (al + 0x06) % 16 + 0x10 else al

/-- ADC with D = 1: the recommended instance of `DecimalAdc` (`44_arith.md` R206, R207; log 12). -/
def decimalAdc (a m : Byte) (c : Bool) : ArithResult :=
  let al := decimalAdcLow a m c
  let t := (a &&& 0xF0#8).toNat + (m &&& 0xF0#8).toNat + al
  let ts : Int := (a &&& 0xF0#8).toInt + (m &&& 0xF0#8).toInt + al
  let t' := if t ≥ 0xA0 then t + 0x60 else t
  { value := BitVec.ofNat 8 t', n := t.testBit 7, v := decide (ts < -128 ∨ ts > 127),
    z := (a.toNat + m.toNat + c.toNat) % 256 == 0, c := decide (t' ≥ 0x100) }

/-- The low decimal digit of a decimal subtraction, corrected, with its borrow as -$10 (`44_arith.md` R208: `al`). -/
def decimalSbcLow (a m : Byte) (c : Bool) : Int :=
  let al : Int := (a.toNat % 16 : Nat) - (m.toNat % 16 : Nat) + c.toNat - 1
  if al < 0 then (al - 0x06) % 16 - 0x10 else al

/-- SBC with D = 1: the recommended instance of `DecimalSbc` (`44_arith.md` R206, R208; log 12). N, V, Z and C are those
of the binary subtraction. -/
def decimalSbc (a m : Byte) (c : Bool) : ArithResult :=
  let r : Int := (a &&& 0xF0#8).toNat - (m &&& 0xF0#8).toNat + decimalSbcLow a m c
  { binarySbc a m c with value := BitVec.ofInt 8 (if r < 0 then r - 0x60 else r) }

/-- The addition that P.D selects (`44_arith.md` R200, R204). -/
def adcResult (d : Bool) (a m : Byte) (c : Bool) : ArithResult :=
  if d then decimalAdc a m c else binaryAdc a m c

/-- The subtraction that P.D selects (`44_arith.md` R204, R210). -/
def sbcResult (d : Bool) (a m : Byte) (c : Bool) : ArithResult :=
  if d then decimalSbc a m c else binarySbc a m c

/-- `Compare(reg, m)` on P alone: C from the unsigned comparison, N and Z from the difference (`44_arith.md` R201). -/
def compareFlags (p : Status) (reg m : Byte) : Status :=
  { p with c := decide (reg.toNat ≥ m.toNat), n := (reg - m).getLsbD 7, z := (reg - m) == 0x00#8 }

/-- What a shift or rotate computes: the result byte and the bit shifted out, which enters P.C. -/
structure ShiftResult where
  /-- the result byte -/
  value : Byte
  /-- the new P.C -/
  carry : Bool
deriving DecidableEq, Repr

/-- ASL: bit 7 goes to C, 0 enters bit 0 (`43_shift_logic.md` R181). The carry in is not used. -/
def aslByte (m : Byte) (_c : Bool) : ShiftResult := { value := m <<< 1, carry := m.getLsbD 7 }

/-- LSR: bit 0 goes to C, 0 enters bit 7 (`43_shift_logic.md` R182). The carry in is not used. -/
def lsrByte (m : Byte) (_c : Bool) : ShiftResult := { value := m >>> 1, carry := m.getLsbD 0 }

/-- ROL: bit 7 goes to C, the old C enters bit 0 (`43_shift_logic.md` R183). -/
def rolByte (m : Byte) (c : Bool) : ShiftResult :=
  { value := (m <<< 1) ||| (BitVec.ofBool c).setWidth 8, carry := m.getLsbD 7 }

/-- ROR: bit 0 goes to C, the old C enters bit 7 (`43_shift_logic.md` R184). -/
def rorByte (m : Byte) (c : Bool) : ShiftResult :=
  { value := (m >>> 1) ||| ((BitVec.ofBool c).setWidth 8 <<< 7), carry := m.getLsbD 0 }

/-- What ARR writes to A, V and C, from `t`, the AND of A with the operand (`45_arith_undocumented.md` R221). -/
structure ArrResult where
  /-- the new A: `t` rotated right through C -/
  value : Byte
  /-- P.V -/
  v : Bool
  /-- P.C -/
  c : Bool
deriving DecidableEq, Repr

/-- ARR on `t = A & M`, in binary and in decimal mode (`45_arith_undocumented.md` R221; logs 15, 33). -/
def arrResult (d : Bool) (t : Byte) (c : Bool) : ArrResult :=
  let r := (rorByte t c).value
  if d then
    { value := r, v := r.getLsbD 6 != t.getLsbD 6,
      c := decide ((t &&& 0xF0#8).toNat + (t &&& 0x10#8).toNat > 0x50) }
  else { value := r, v := r.getLsbD 6 != r.getLsbD 5, c := r.getLsbD 6 }

end Sys2Proof.Machine
end

