-- ==== Sys2Proof/Machine/Ops.lean ====
section
/-! DEFINITION. The named operations over registers, flags, memory and stack; taking an interrupt, returning from one,
and reset. -/

namespace Sys2Proof.Machine

/-! ### Registers and flags -/

/-- `A <- v` (`10_state.md` R11). -/
def State.setA (v : Byte) (s : State) : State := { s with a := v }

/-- `X <- v` (`10_state.md` R12). -/
def State.setX (v : Byte) (s : State) : State := { s with x := v }

/-- `Y <- v` (`10_state.md` R13). -/
def State.setY (v : Byte) (s : State) : State := { s with y := v }

/-- `S <- v` (`10_state.md` R14). -/
def State.setSp (v : Byte) (s : State) : State := { s with sp := v }

/-- `PC <- v` (`10_state.md` R16). -/
def State.setPc (v : Word) (s : State) : State := { s with pc := v }

/-- All six flags (`10_state.md` R18). -/
def State.setP (v : Status) (s : State) : State := { s with p := v }

/-- `SetNZ(v)` (`40_addressing.md` R115). -/
def State.setNZ (v : Byte) (s : State) : State := s.setP (s.p.setNZ v)

/-- `P.C <- b`. -/
def State.setC (b : Bool) (s : State) : State := s.setP { s.p with c := b }

/-- `n` more clock cycles have passed (`70_reset_and_hazards.md` R360). -/
def State.tick (n : Nat) (s : State) : State := { s with cycles := s.cycles + n }

/-- The end of an instruction that does not write PC: `PC <- pc_next` (`10_state.md` R17, `30_encoding.md` R73), after
the clock cycles it took. -/
def State.finish (length cycles : Nat) (s : State) : State :=
  (s.setPc (s.pc + BitVec.ofNat 16 length)).tick cycles

/-- A, N, V, Z and C from an addition or subtraction (`44_arith.md` R200, R210). -/
def State.setArith (r : ArithResult) (s : State) : State :=
  (s.setA r.value).setP { s.p with n := r.n, v := r.v, z := r.z, c := r.c }

/-- The ADC pseudocode with operand `m`, in the mode P.D selects (`44_arith.md` R200). -/
def State.adc (m : Byte) (s : State) : State := s.setArith (adcResult s.p.d s.a m s.p.c)

/-- The SBC pseudocode with operand `m`, in the mode P.D selects (`44_arith.md` R210). -/
def State.sbc (m : Byte) (s : State) : State := s.setArith (sbcResult s.p.d s.a m s.p.c)

/-- `Compare(reg, m)` (`44_arith.md` R201). -/
def State.compare (reg m : Byte) (s : State) : State := s.setP (compareFlags s.p reg m)

/-! ### Free values -/

/-- `draw(byte)`: the next free byte (`00_scope.md` section 6.3). -/
def State.drawByte (s : State) : Byte × State := (Config.freeByte s.draws, { s with draws := s.draws + 1 })

/-! ### Memory -/

/-- `MemRead(addr, 1)` (`20_memory.md` R41): RAM and ROM give the stored byte; unmapped space any value (93,
UNMAPPED_MEMORY); a device answers any value, and sees the access (D7; log 8). -/
def State.busRead (addr : Word) (s : State) : Byte × State :=
  match kindAt s.map addr with
  | .ram => (s.mem.read addr.toNat, s)
  | .rom => (s.mem.read addr.toNat, s)
  | .unmapped => s.drawByte
  | .device =>
    let r := s.drawByte
    (r.1, { r.2 with events := .read addr r.1 :: r.2.events })

/-- `MemWrite(addr, 1, v)` (`20_memory.md` R41): RAM keeps the byte; ROM and unmapped space ignore it (93,
UNMAPPED_MEMORY); a device sees the access (D7). -/
def State.busWrite (addr : Word) (v : Byte) (s : State) : State :=
  match kindAt s.map addr with
  | .ram => { s with mem := s.mem.write addr.toNat v }
  | .rom => s
  | .unmapped => s
  | .device => { s with events := .write addr v :: s.events }

/-- Two byte reads, the low byte first, put together as a word (`20_memory.md` R43; the addressing modes that wrap
differently give their own second address). -/
def State.readPair (lo hi : Word) (s : State) : Word × State :=
  let l := s.busRead lo
  let h := l.2.busRead hi
  (word h.1 l.1, h.2)

/-- `MemRead16(addr)` (`20_memory.md` R43); the address wraps modulo 65536 (R50). -/
def State.readWord (addr : Word) (s : State) : Word × State := s.readPair addr (addr + 1)

/-! ### Stack -/

/-- `Push(v)` (`40_addressing.md` R116): store at `$0100 + S`, then decrement S modulo 256. -/
def State.push (v : Byte) (s : State) : State :=
  let t := s.busWrite (stackAddress s.sp) v
  t.setSp (t.sp - 1)

/-- `Pull()` (`40_addressing.md` R117): increment S modulo 256, then read `$0100 + S`. -/
def State.pull (s : State) : Byte × State :=
  let t := s.setSp (s.sp + 1)
  t.busRead (stackAddress t.sp)

/-- The high byte of a return address, then its low byte (`47_control.md` R260, R263). -/
def State.pushWord (w : Word) (s : State) : State := (s.push (hiByte w)).push (loByte w)

/-- The low byte of a return address, then its high byte (`47_control.md` R264, R265). -/
def State.pullWord (s : State) : Word × State :=
  let l := s.pull
  let h := l.2.pull
  (word h.1 l.1, h.2)

/-! ### Interrupts and reset -/

/-- Taking an exception: the interrupt sequence that BRK runs under program control (`47_control.md` R260) and that IRQ
and NMI run in hardware (`60_exceptions.md` R320). The return address `ret`, then P with the B position `b` go to the
stack; I becomes 1; PC comes from the vector; 7 cycles pass. -/
def State.interruptSequence (ret : Word) (b : Bool) (vector : Word) (s : State) : State :=
  let pushed := (s.pushWord ret).push (s.p.toByte b)
  let masked := pushed.setP { pushed.p with i := true }
  let target := masked.readWord vector
  (target.2.setPc target.1).tick 7

/-- Returning from an interrupt (`47_control.md` R264, `60_exceptions.md` R322): P, PCL, PCH are pulled, bits 5 and 4 of
the status byte are discarded, PC is not incremented; 6 cycles. -/
def State.returnFromInterrupt (s : State) : State :=
  let status := s.pull
  let target := (status.2.setP (Status.ofByte status.1)).pullWord
  (target.2.setPc target.1).tick 6

/-- Taking an NMI (`60_exceptions.md` R313, R315, R320): the latch is cleared; the address pushed is that of the
instruction not yet executed; B = 0. -/
def State.takeNmi (s : State) : State :=
  State.interruptSequence s.pc false nmiVector { s with nmiPending := false }

/-- Taking an IRQ (`60_exceptions.md` R313, R314, R320). -/
def State.takeIrq (s : State) : State := s.interruptSequence s.pc false irqVector

/-- The registers and flags a RESET leaves (`70_reset_and_hazards.md` R350): I = 1, not halted, no NMI pending, and a
free value in every other register and flag (log 4). -/
def State.resetRegisters (s : State) : State :=
  { s with
    halted := false
    nmiPending := false
    a := Config.freeByte s.draws
    x := Config.freeByte (s.draws + 1)
    y := Config.freeByte (s.draws + 2)
    sp := Config.freeByte (s.draws + 3)
    p :=
      { n := Config.freeBit (s.draws + 4)
        v := Config.freeBit (s.draws + 5)
        d := Config.freeBit (s.draws + 6)
        i := true
        z := Config.freeBit (s.draws + 7)
        c := Config.freeBit (s.draws + 8) }
    draws := s.draws + 9 }

/-- The reset sequence (`70_reset_and_hazards.md` R350): no memory is written; PC comes from the word at $FFFC; 7
cycles. -/
def State.resetSequence (s : State) : State :=
  let r := s.resetRegisters
  let target := r.readWord resetVector
  (target.2.setPc target.1).tick 7

end Sys2Proof.Machine
end

