-- ==== Sys2Proof/Machine/Boundary.lean ====
section
/-! DEFINITION. What happens at an instruction boundary before an instruction is fetched (`60_exceptions.md` R313 to
R316). -/

namespace Sys2Proof.Machine

/-- What a boundary decides. -/
inductive Boundary where
  /-- the step is over: a reset, a halted core, or an interrupt entry, with the state it leaves -/
  | event (t : State)
  /-- one instruction is fetched and executed from this state -/
  | instruction (t : State)
deriving DecidableEq, Repr

/-- The sample of the inputs at this boundary; no input is asserted past the end of the list (log 9). -/
def State.sample (s : State) : Inputs := s.inputs.headD Inputs.idle

/-- This boundary's sample is used up. -/
def State.dropSample (s : State) : State := { s with inputs := s.inputs.tail }

/-- A falling edge on the NMI input sets the latch (`10_state.md` R24). -/
def State.latchNmi (edge : Bool) (s : State) : State := { s with nmiPending := s.nmiPending || edge }

/-- The tests of a boundary in the order of `60_exceptions.md` R313: RESET, the halted state, NMI, IRQ, else an
instruction. An NMI edge sets the latch of a halted core too (R24); RESET clears it (`70_reset_and_hazards.md` R350). -/
def State.boundary (s : State) : Boundary :=
  let now := s.sample
  let rest := s.dropSample
  if now.reset then .event rest.resetSequence
  else
    let live := rest.latchNmi now.nmi
    if live.halted then .event live
    else if live.nmiPending then .event live.takeNmi
    else if now.irq && !live.p.i then .event live.takeIrq
    else .instruction live

end Sys2Proof.Machine
end

