-- ==== Sys2Proof/Syntax.lean ====
section
/-! DEFINITION. The instructions: one constructor per row of `opcode_table.json` (`30_encoding.md` R77), and what a row
says of itself: its mnemonic and its operand. -/

namespace Sys2Proof

/-- The 75 mnemonics (`30_encoding.md` R74). -/
inductive Mnemonic where
  | las | lax | lda | ldx | ldy | sax | sha | shx | shy | sta | stx | sty | shs | tax | tay | tsx | txa | txs | tya
  | pha | php | pla | plp | asl | lsr | rol | ror | and | bit | eor | ora | adc | cmp | cpx | cpy | sbc | anc | arr
  | asr | dcp | isc | rla | rra | sbx | slo | sre | xaa | dec | dex | dey | inc | inx | iny | brk | jmp | jsr | rti
  | rts | bcc | bcs | beq | bmi | bne | bpl | bvc | bvs | nop | clc | cld | cli | clv | sec | sed | sei | jam
deriving DecidableEq, Repr

/-- The thirteen addressing modes (`30_encoding.md` R76). -/
inductive Mode where
  | imp | acc | imm | zp | zpx | zpy | abs | abx | aby | izx | izy | ind | rel
deriving DecidableEq, Repr

/-- An operand in memory: the eight modes that have an effective address (`40_addressing.md` R100). `b` is the operand
byte, `w` the 16-bit operand `b2 : b1` (`30_encoding.md` R75). -/
inductive MemOperand where
  /-- Zero Page, `$nn` (R104) -/
  | zp (b : Byte)
  /-- X-Indexed Zero Page, `$nn,X` (R104) -/
  | zpx (b : Byte)
  /-- Y-Indexed Zero Page, `$nn,Y` (R105) -/
  | zpy (b : Byte)
  /-- Absolute, `$nnnn` (R106) -/
  | abs (w : Word)
  /-- X-Indexed Absolute, `$nnnn,X` (R107) -/
  | abx (w : Word)
  /-- Y-Indexed Absolute, `$nnnn,Y` (R108) -/
  | aby (w : Word)
  /-- X-Indexed Zero Page Indirect, `($nn,X)` (R109) -/
  | izx (b : Byte)
  /-- Zero Page Indirect Y-Indexed, `($nn),Y` (R110) -/
  | izy (b : Byte)
deriving DecidableEq, Repr

/-- What an instruction that reads its operand reads it from (`40_addressing.md` R100, R103). -/
inductive Source where
  /-- Immediate, `#$nn` -/
  | imm (d : Byte)
  /-- a byte of memory -/
  | mem (m : MemOperand)
deriving DecidableEq, Repr

/-- What a shift or rotate works on (`40_addressing.md` R102, `43_shift_logic.md` R180). -/
inductive Target where
  /-- Accumulator, `A` -/
  | acc
  /-- a byte of memory -/
  | mem (m : MemOperand)
deriving DecidableEq, Repr

/-- The operand of an instruction, of any of the thirteen modes. -/
inductive Operand where
  /-- Implied (R101) -/
  | implied
  /-- Accumulator (R102) -/
  | accumulator
  /-- Immediate (R103) -/
  | immediate (d : Byte)
  /-- a mode with an effective address (R104 to R110); for JMP and JSR the absolute address is the new PC itself (R106) -/
  | memory (m : MemOperand)
  /-- Absolute Indirect (R111) -/
  | indirect (w : Word)
  /-- Relative (R112) -/
  | relative (r : Byte)
deriving DecidableEq, Repr

/-- A source as an operand. -/
def Source.operand : Source → Operand
  | .imm d => .immediate d
  | .mem m => .memory m

/-- A shift's target as an operand. -/
def Target.operand : Target → Operand
  | .acc => .accumulator
  | .mem m => .memory m

/-- The instructions. A name is the mnemonic, the mode where the mnemonic has several rows, and the opcode where
several undocumented rows share mnemonic and mode. -/
inductive Instr where
  /-- `LAS $nnnn,Y`, $BB, undocumented (R130) -/
  | las (w : Word)
  /-- `LAX ($nn,X)`, $A3, undocumented (R131) -/
  | laxIzx (b : Byte)
  /-- `LAX $nn`, $A7, undocumented (R131) -/
  | laxZp (b : Byte)
  /-- `LAX #$nn`, $AB, undocumented (R131) -/
  | laxImm (d : Byte)
  /-- `LAX $nnnn`, $AF, undocumented (R131) -/
  | laxAbs (w : Word)
  /-- `LAX ($nn),Y`, $B3, undocumented (R131) -/
  | laxIzy (b : Byte)
  /-- `LAX $nn,Y`, $B7, undocumented (R131) -/
  | laxZpy (b : Byte)
  /-- `LAX $nnnn,Y`, $BF, undocumented (R131) -/
  | laxAby (w : Word)
  /-- `LDA ($nn,X)`, $A1 (R132) -/
  | ldaIzx (b : Byte)
  /-- `LDA $nn`, $A5 (R132) -/
  | ldaZp (b : Byte)
  /-- `LDA #$nn`, $A9 (R132) -/
  | ldaImm (d : Byte)
  /-- `LDA $nnnn`, $AD (R132) -/
  | ldaAbs (w : Word)
  /-- `LDA ($nn),Y`, $B1 (R132) -/
  | ldaIzy (b : Byte)
  /-- `LDA $nn,X`, $B5 (R132) -/
  | ldaZpx (b : Byte)
  /-- `LDA $nnnn,Y`, $B9 (R132) -/
  | ldaAby (w : Word)
  /-- `LDA $nnnn,X`, $BD (R132) -/
  | ldaAbx (w : Word)
  /-- `LDX #$nn`, $A2 (R133) -/
  | ldxImm (d : Byte)
  /-- `LDX $nn`, $A6 (R133) -/
  | ldxZp (b : Byte)
  /-- `LDX $nnnn`, $AE (R133) -/
  | ldxAbs (w : Word)
  /-- `LDX $nn,Y`, $B6 (R133) -/
  | ldxZpy (b : Byte)
  /-- `LDX $nnnn,Y`, $BE (R133) -/
  | ldxAby (w : Word)
  /-- `LDY #$nn`, $A0 (R134) -/
  | ldyImm (d : Byte)
  /-- `LDY $nn`, $A4 (R134) -/
  | ldyZp (b : Byte)
  /-- `LDY $nnnn`, $AC (R134) -/
  | ldyAbs (w : Word)
  /-- `LDY $nn,X`, $B4 (R134) -/
  | ldyZpx (b : Byte)
  /-- `LDY $nnnn,X`, $BC (R134) -/
  | ldyAbx (w : Word)
  /-- `SAX ($nn,X)`, $83, undocumented (R135) -/
  | saxIzx (b : Byte)
  /-- `SAX $nn`, $87, undocumented (R135) -/
  | saxZp (b : Byte)
  /-- `SAX $nnnn`, $8F, undocumented (R135) -/
  | saxAbs (w : Word)
  /-- `SAX $nn,Y`, $97, undocumented (R135) -/
  | saxZpy (b : Byte)
  /-- `SHA ($nn),Y`, $93, undocumented (R136) -/
  | shaIzy (b : Byte)
  /-- `SHA $nnnn,Y`, $9F, undocumented (R136) -/
  | shaAby (w : Word)
  /-- `SHX $nnnn,Y`, $9E, undocumented (R137) -/
  | shx (w : Word)
  /-- `SHY $nnnn,X`, $9C, undocumented (R138) -/
  | shy (w : Word)
  /-- `STA ($nn,X)`, $81 (R139) -/
  | staIzx (b : Byte)
  /-- `STA $nn`, $85 (R139) -/
  | staZp (b : Byte)
  /-- `STA $nnnn`, $8D (R139) -/
  | staAbs (w : Word)
  /-- `STA ($nn),Y`, $91 (R139) -/
  | staIzy (b : Byte)
  /-- `STA $nn,X`, $95 (R139) -/
  | staZpx (b : Byte)
  /-- `STA $nnnn,Y`, $99 (R139) -/
  | staAby (w : Word)
  /-- `STA $nnnn,X`, $9D (R139) -/
  | staAbx (w : Word)
  /-- `STX $nn`, $86 (R140) -/
  | stxZp (b : Byte)
  /-- `STX $nnnn`, $8E (R140) -/
  | stxAbs (w : Word)
  /-- `STX $nn,Y`, $96 (R140) -/
  | stxZpy (b : Byte)
  /-- `STY $nn`, $84 (R141) -/
  | styZp (b : Byte)
  /-- `STY $nnnn`, $8C (R141) -/
  | styAbs (w : Word)
  /-- `STY $nn,X`, $94 (R141) -/
  | styZpx (b : Byte)
  /-- `SHS $nnnn,Y`, $9B, undocumented (R160) -/
  | shs (w : Word)
  /-- `TAX`, $AA (R161) -/
  | tax
  /-- `TAY`, $A8 (R162) -/
  | tay
  /-- `TSX`, $BA (R163) -/
  | tsx
  /-- `TXA`, $8A (R164) -/
  | txa
  /-- `TXS`, $9A (R165) -/
  | txs
  /-- `TYA`, $98 (R166) -/
  | tya
  /-- `PHA`, $48 (R167) -/
  | pha
  /-- `PHP`, $08 (R168) -/
  | php
  /-- `PLA`, $68 (R169) -/
  | pla
  /-- `PLP`, $28 (R170) -/
  | plp
  /-- `ASL $nn`, $06 (R181) -/
  | aslZp (b : Byte)
  /-- `ASL A`, $0A (R181) -/
  | aslAcc
  /-- `ASL $nnnn`, $0E (R181) -/
  | aslAbs (w : Word)
  /-- `ASL $nn,X`, $16 (R181) -/
  | aslZpx (b : Byte)
  /-- `ASL $nnnn,X`, $1E (R181) -/
  | aslAbx (w : Word)
  /-- `LSR $nn`, $46 (R182) -/
  | lsrZp (b : Byte)
  /-- `LSR A`, $4A (R182) -/
  | lsrAcc
  /-- `LSR $nnnn`, $4E (R182) -/
  | lsrAbs (w : Word)
  /-- `LSR $nn,X`, $56 (R182) -/
  | lsrZpx (b : Byte)
  /-- `LSR $nnnn,X`, $5E (R182) -/
  | lsrAbx (w : Word)
  /-- `ROL $nn`, $26 (R183) -/
  | rolZp (b : Byte)
  /-- `ROL A`, $2A (R183) -/
  | rolAcc
  /-- `ROL $nnnn`, $2E (R183) -/
  | rolAbs (w : Word)
  /-- `ROL $nn,X`, $36 (R183) -/
  | rolZpx (b : Byte)
  /-- `ROL $nnnn,X`, $3E (R183) -/
  | rolAbx (w : Word)
  /-- `ROR $nn`, $66 (R184) -/
  | rorZp (b : Byte)
  /-- `ROR A`, $6A (R184) -/
  | rorAcc
  /-- `ROR $nnnn`, $6E (R184) -/
  | rorAbs (w : Word)
  /-- `ROR $nn,X`, $76 (R184) -/
  | rorZpx (b : Byte)
  /-- `ROR $nnnn,X`, $7E (R184) -/
  | rorAbx (w : Word)
  /-- `AND ($nn,X)`, $21 (R185) -/
  | andIzx (b : Byte)
  /-- `AND $nn`, $25 (R185) -/
  | andZp (b : Byte)
  /-- `AND #$nn`, $29 (R185) -/
  | andImm (d : Byte)
  /-- `AND $nnnn`, $2D (R185) -/
  | andAbs (w : Word)
  /-- `AND ($nn),Y`, $31 (R185) -/
  | andIzy (b : Byte)
  /-- `AND $nn,X`, $35 (R185) -/
  | andZpx (b : Byte)
  /-- `AND $nnnn,Y`, $39 (R185) -/
  | andAby (w : Word)
  /-- `AND $nnnn,X`, $3D (R185) -/
  | andAbx (w : Word)
  /-- `BIT $nn`, $24 (R186) -/
  | bitZp (b : Byte)
  /-- `BIT $nnnn`, $2C (R186) -/
  | bitAbs (w : Word)
  /-- `EOR ($nn,X)`, $41 (R187) -/
  | eorIzx (b : Byte)
  /-- `EOR $nn`, $45 (R187) -/
  | eorZp (b : Byte)
  /-- `EOR #$nn`, $49 (R187) -/
  | eorImm (d : Byte)
  /-- `EOR $nnnn`, $4D (R187) -/
  | eorAbs (w : Word)
  /-- `EOR ($nn),Y`, $51 (R187) -/
  | eorIzy (b : Byte)
  /-- `EOR $nn,X`, $55 (R187) -/
  | eorZpx (b : Byte)
  /-- `EOR $nnnn,Y`, $59 (R187) -/
  | eorAby (w : Word)
  /-- `EOR $nnnn,X`, $5D (R187) -/
  | eorAbx (w : Word)
  /-- `ORA ($nn,X)`, $01 (R188) -/
  | oraIzx (b : Byte)
  /-- `ORA $nn`, $05 (R188) -/
  | oraZp (b : Byte)
  /-- `ORA #$nn`, $09 (R188) -/
  | oraImm (d : Byte)
  /-- `ORA $nnnn`, $0D (R188) -/
  | oraAbs (w : Word)
  /-- `ORA ($nn),Y`, $11 (R188) -/
  | oraIzy (b : Byte)
  /-- `ORA $nn,X`, $15 (R188) -/
  | oraZpx (b : Byte)
  /-- `ORA $nnnn,Y`, $19 (R188) -/
  | oraAby (w : Word)
  /-- `ORA $nnnn,X`, $1D (R188) -/
  | oraAbx (w : Word)
  /-- `ADC ($nn,X)`, $61 (R200) -/
  | adcIzx (b : Byte)
  /-- `ADC $nn`, $65 (R200) -/
  | adcZp (b : Byte)
  /-- `ADC #$nn`, $69 (R200) -/
  | adcImm (d : Byte)
  /-- `ADC $nnnn`, $6D (R200) -/
  | adcAbs (w : Word)
  /-- `ADC ($nn),Y`, $71 (R200) -/
  | adcIzy (b : Byte)
  /-- `ADC $nn,X`, $75 (R200) -/
  | adcZpx (b : Byte)
  /-- `ADC $nnnn,Y`, $79 (R200) -/
  | adcAby (w : Word)
  /-- `ADC $nnnn,X`, $7D (R200) -/
  | adcAbx (w : Word)
  /-- `CMP ($nn,X)`, $C1 (R201) -/
  | cmpIzx (b : Byte)
  /-- `CMP $nn`, $C5 (R201) -/
  | cmpZp (b : Byte)
  /-- `CMP #$nn`, $C9 (R201) -/
  | cmpImm (d : Byte)
  /-- `CMP $nnnn`, $CD (R201) -/
  | cmpAbs (w : Word)
  /-- `CMP ($nn),Y`, $D1 (R201) -/
  | cmpIzy (b : Byte)
  /-- `CMP $nn,X`, $D5 (R201) -/
  | cmpZpx (b : Byte)
  /-- `CMP $nnnn,Y`, $D9 (R201) -/
  | cmpAby (w : Word)
  /-- `CMP $nnnn,X`, $DD (R201) -/
  | cmpAbx (w : Word)
  /-- `CPX #$nn`, $E0 (R202) -/
  | cpxImm (d : Byte)
  /-- `CPX $nn`, $E4 (R202) -/
  | cpxZp (b : Byte)
  /-- `CPX $nnnn`, $EC (R202) -/
  | cpxAbs (w : Word)
  /-- `CPY #$nn`, $C0 (R203) -/
  | cpyImm (d : Byte)
  /-- `CPY $nn`, $C4 (R203) -/
  | cpyZp (b : Byte)
  /-- `CPY $nnnn`, $CC (R203) -/
  | cpyAbs (w : Word)
  /-- `SBC ($nn,X)`, $E1 (R210) -/
  | sbcIzx (b : Byte)
  /-- `SBC $nn`, $E5 (R210) -/
  | sbcZp (b : Byte)
  /-- `SBC #$nn`, $E9 (R210) -/
  | sbcImm (d : Byte)
  /-- `SBC #$nn`, $EB, undocumented (R210) -/
  | sbcImmEB (d : Byte)
  /-- `SBC $nnnn`, $ED (R210) -/
  | sbcAbs (w : Word)
  /-- `SBC ($nn),Y`, $F1 (R210) -/
  | sbcIzy (b : Byte)
  /-- `SBC $nn,X`, $F5 (R210) -/
  | sbcZpx (b : Byte)
  /-- `SBC $nnnn,Y`, $F9 (R210) -/
  | sbcAby (w : Word)
  /-- `SBC $nnnn,X`, $FD (R210) -/
  | sbcAbx (w : Word)
  /-- `ANC #$nn`, $0B, undocumented (R220) -/
  | ancImm0B (d : Byte)
  /-- `ANC #$nn`, $2B, undocumented (R220) -/
  | ancImm2B (d : Byte)
  /-- `ARR #$nn`, $6B, undocumented (R221) -/
  | arr (d : Byte)
  /-- `ASR #$nn`, $4B, undocumented (R222) -/
  | asr (d : Byte)
  /-- `DCP ($nn,X)`, $C3, undocumented (R223) -/
  | dcpIzx (b : Byte)
  /-- `DCP $nn`, $C7, undocumented (R223) -/
  | dcpZp (b : Byte)
  /-- `DCP $nnnn`, $CF, undocumented (R223) -/
  | dcpAbs (w : Word)
  /-- `DCP ($nn),Y`, $D3, undocumented (R223) -/
  | dcpIzy (b : Byte)
  /-- `DCP $nn,X`, $D7, undocumented (R223) -/
  | dcpZpx (b : Byte)
  /-- `DCP $nnnn,Y`, $DB, undocumented (R223) -/
  | dcpAby (w : Word)
  /-- `DCP $nnnn,X`, $DF, undocumented (R223) -/
  | dcpAbx (w : Word)
  /-- `ISC ($nn,X)`, $E3, undocumented (R224) -/
  | iscIzx (b : Byte)
  /-- `ISC $nn`, $E7, undocumented (R224) -/
  | iscZp (b : Byte)
  /-- `ISC $nnnn`, $EF, undocumented (R224) -/
  | iscAbs (w : Word)
  /-- `ISC ($nn),Y`, $F3, undocumented (R224) -/
  | iscIzy (b : Byte)
  /-- `ISC $nn,X`, $F7, undocumented (R224) -/
  | iscZpx (b : Byte)
  /-- `ISC $nnnn,Y`, $FB, undocumented (R224) -/
  | iscAby (w : Word)
  /-- `ISC $nnnn,X`, $FF, undocumented (R224) -/
  | iscAbx (w : Word)
  /-- `RLA ($nn,X)`, $23, undocumented (R225) -/
  | rlaIzx (b : Byte)
  /-- `RLA $nn`, $27, undocumented (R225) -/
  | rlaZp (b : Byte)
  /-- `RLA $nnnn`, $2F, undocumented (R225) -/
  | rlaAbs (w : Word)
  /-- `RLA ($nn),Y`, $33, undocumented (R225) -/
  | rlaIzy (b : Byte)
  /-- `RLA $nn,X`, $37, undocumented (R225) -/
  | rlaZpx (b : Byte)
  /-- `RLA $nnnn,Y`, $3B, undocumented (R225) -/
  | rlaAby (w : Word)
  /-- `RLA $nnnn,X`, $3F, undocumented (R225) -/
  | rlaAbx (w : Word)
  /-- `RRA ($nn,X)`, $63, undocumented (R226) -/
  | rraIzx (b : Byte)
  /-- `RRA $nn`, $67, undocumented (R226) -/
  | rraZp (b : Byte)
  /-- `RRA $nnnn`, $6F, undocumented (R226) -/
  | rraAbs (w : Word)
  /-- `RRA ($nn),Y`, $73, undocumented (R226) -/
  | rraIzy (b : Byte)
  /-- `RRA $nn,X`, $77, undocumented (R226) -/
  | rraZpx (b : Byte)
  /-- `RRA $nnnn,Y`, $7B, undocumented (R226) -/
  | rraAby (w : Word)
  /-- `RRA $nnnn,X`, $7F, undocumented (R226) -/
  | rraAbx (w : Word)
  /-- `SBX #$nn`, $CB, undocumented (R227) -/
  | sbx (d : Byte)
  /-- `SLO ($nn,X)`, $03, undocumented (R228) -/
  | sloIzx (b : Byte)
  /-- `SLO $nn`, $07, undocumented (R228) -/
  | sloZp (b : Byte)
  /-- `SLO $nnnn`, $0F, undocumented (R228) -/
  | sloAbs (w : Word)
  /-- `SLO ($nn),Y`, $13, undocumented (R228) -/
  | sloIzy (b : Byte)
  /-- `SLO $nn,X`, $17, undocumented (R228) -/
  | sloZpx (b : Byte)
  /-- `SLO $nnnn,Y`, $1B, undocumented (R228) -/
  | sloAby (w : Word)
  /-- `SLO $nnnn,X`, $1F, undocumented (R228) -/
  | sloAbx (w : Word)
  /-- `SRE ($nn,X)`, $43, undocumented (R229) -/
  | sreIzx (b : Byte)
  /-- `SRE $nn`, $47, undocumented (R229) -/
  | sreZp (b : Byte)
  /-- `SRE $nnnn`, $4F, undocumented (R229) -/
  | sreAbs (w : Word)
  /-- `SRE ($nn),Y`, $53, undocumented (R229) -/
  | sreIzy (b : Byte)
  /-- `SRE $nn,X`, $57, undocumented (R229) -/
  | sreZpx (b : Byte)
  /-- `SRE $nnnn,Y`, $5B, undocumented (R229) -/
  | sreAby (w : Word)
  /-- `SRE $nnnn,X`, $5F, undocumented (R229) -/
  | sreAbx (w : Word)
  /-- `XAA #$nn`, $8B, undocumented (R240) -/
  | xaa (d : Byte)
  /-- `DEC $nn`, $C6 (R250) -/
  | decZp (b : Byte)
  /-- `DEC $nnnn`, $CE (R250) -/
  | decAbs (w : Word)
  /-- `DEC $nn,X`, $D6 (R250) -/
  | decZpx (b : Byte)
  /-- `DEC $nnnn,X`, $DE (R250) -/
  | decAbx (w : Word)
  /-- `DEX`, $CA (R251) -/
  | dex
  /-- `DEY`, $88 (R252) -/
  | dey
  /-- `INC $nn`, $E6 (R253) -/
  | incZp (b : Byte)
  /-- `INC $nnnn`, $EE (R253) -/
  | incAbs (w : Word)
  /-- `INC $nn,X`, $F6 (R253) -/
  | incZpx (b : Byte)
  /-- `INC $nnnn,X`, $FE (R253) -/
  | incAbx (w : Word)
  /-- `INX`, $E8 (R254) -/
  | inx
  /-- `INY`, $C8 (R255) -/
  | iny
  /-- `BRK`, $00 (R260) -/
  | brk
  /-- `JMP $nnnn`, $4C (R261) -/
  | jmpAbs (w : Word)
  /-- `JMP ($nnnn)`, $6C (R262) -/
  | jmpInd (w : Word)
  /-- `JSR $nnnn`, $20 (R263) -/
  | jsr (w : Word)
  /-- `RTI`, $40 (R264) -/
  | rti
  /-- `RTS`, $60 (R265) -/
  | rts
  /-- `BCC $nnnn`, $90 (R281) -/
  | bcc (r : Byte)
  /-- `BCS $nnnn`, $B0 (R282) -/
  | bcs (r : Byte)
  /-- `BEQ $nnnn`, $F0 (R283) -/
  | beq (r : Byte)
  /-- `BMI $nnnn`, $30 (R284) -/
  | bmi (r : Byte)
  /-- `BNE $nnnn`, $D0 (R285) -/
  | bne (r : Byte)
  /-- `BPL $nnnn`, $10 (R286) -/
  | bpl (r : Byte)
  /-- `BVC $nnnn`, $50 (R287) -/
  | bvc (r : Byte)
  /-- `BVS $nnnn`, $70 (R288) -/
  | bvs (r : Byte)
  /-- `NOP $nn`, $04, undocumented (R303) -/
  | nopZp04 (b : Byte)
  /-- `NOP $nnnn`, $0C, undocumented (R303) -/
  | nopAbs (w : Word)
  /-- `NOP $nn,X`, $14, undocumented (R303) -/
  | nopZpx14 (b : Byte)
  /-- `NOP`, $1A, undocumented (R301) -/
  | nop1A
  /-- `NOP $nnnn,X`, $1C, undocumented (R303) -/
  | nopAbx1C (w : Word)
  /-- `NOP $nn,X`, $34, undocumented (R303) -/
  | nopZpx34 (b : Byte)
  /-- `NOP`, $3A, undocumented (R301) -/
  | nop3A
  /-- `NOP $nnnn,X`, $3C, undocumented (R303) -/
  | nopAbx3C (w : Word)
  /-- `NOP $nn`, $44, undocumented (R303) -/
  | nopZp44 (b : Byte)
  /-- `NOP $nn,X`, $54, undocumented (R303) -/
  | nopZpx54 (b : Byte)
  /-- `NOP`, $5A, undocumented (R301) -/
  | nop5A
  /-- `NOP $nnnn,X`, $5C, undocumented (R303) -/
  | nopAbx5C (w : Word)
  /-- `NOP $nn`, $64, undocumented (R303) -/
  | nopZp64 (b : Byte)
  /-- `NOP $nn,X`, $74, undocumented (R303) -/
  | nopZpx74 (b : Byte)
  /-- `NOP`, $7A, undocumented (R301) -/
  | nop7A
  /-- `NOP $nnnn,X`, $7C, undocumented (R303) -/
  | nopAbx7C (w : Word)
  /-- `NOP #$nn`, $80, undocumented (R302) -/
  | nopImm80 (d : Byte)
  /-- `NOP #$nn`, $82, undocumented (R302) -/
  | nopImm82 (d : Byte)
  /-- `NOP #$nn`, $89, undocumented (R302) -/
  | nopImm89 (d : Byte)
  /-- `NOP #$nn`, $C2, undocumented (R302) -/
  | nopImmC2 (d : Byte)
  /-- `NOP $nn,X`, $D4, undocumented (R303) -/
  | nopZpxD4 (b : Byte)
  /-- `NOP`, $DA, undocumented (R301) -/
  | nopDA
  /-- `NOP $nnnn,X`, $DC, undocumented (R303) -/
  | nopAbxDC (w : Word)
  /-- `NOP #$nn`, $E2, undocumented (R302) -/
  | nopImmE2 (d : Byte)
  /-- `NOP`, $EA (R301) -/
  | nop
  /-- `NOP $nn,X`, $F4, undocumented (R303) -/
  | nopZpxF4 (b : Byte)
  /-- `NOP`, $FA, undocumented (R301) -/
  | nopFA
  /-- `NOP $nnnn,X`, $FC, undocumented (R303) -/
  | nopAbxFC (w : Word)
  /-- `CLC`, $18 (R289) -/
  | clc
  /-- `CLD`, $D8 (R290) -/
  | cld
  /-- `CLI`, $58 (R291) -/
  | cli
  /-- `CLV`, $B8 (R292) -/
  | clv
  /-- `SEC`, $38 (R293) -/
  | sec
  /-- `SED`, $F8 (R294) -/
  | sed
  /-- `SEI`, $78 (R295) -/
  | sei
  /-- `JAM`, $02, undocumented (R300) -/
  | jam02
  /-- `JAM`, $12, undocumented (R300) -/
  | jam12
  /-- `JAM`, $22, undocumented (R300) -/
  | jam22
  /-- `JAM`, $32, undocumented (R300) -/
  | jam32
  /-- `JAM`, $42, undocumented (R300) -/
  | jam42
  /-- `JAM`, $52, undocumented (R300) -/
  | jam52
  /-- `JAM`, $62, undocumented (R300) -/
  | jam62
  /-- `JAM`, $72, undocumented (R300) -/
  | jam72
  /-- `JAM`, $92, undocumented (R300) -/
  | jam92
  /-- `JAM`, $B2, undocumented (R300) -/
  | jamB2
  /-- `JAM`, $D2, undocumented (R300) -/
  | jamD2
  /-- `JAM`, $F2, undocumented (R300) -/
  | jamF2
deriving DecidableEq, Repr

/-- The mnemonic of an instruction (`30_encoding.md` R77). -/
def Instr.mnemonic : Instr → Mnemonic
  | .las _ => .las
  | .laxIzx _ | .laxZp _ | .laxImm _ | .laxAbs _ | .laxIzy _ | .laxZpy _ | .laxAby _ => .lax
  | .ldaIzx _ | .ldaZp _ | .ldaImm _ | .ldaAbs _ | .ldaIzy _ | .ldaZpx _ | .ldaAby _ | .ldaAbx _ => .lda
  | .ldxImm _ | .ldxZp _ | .ldxAbs _ | .ldxZpy _ | .ldxAby _ => .ldx
  | .ldyImm _ | .ldyZp _ | .ldyAbs _ | .ldyZpx _ | .ldyAbx _ => .ldy
  | .saxIzx _ | .saxZp _ | .saxAbs _ | .saxZpy _ => .sax
  | .shaIzy _ | .shaAby _ => .sha
  | .shx _ => .shx
  | .shy _ => .shy
  | .staIzx _ | .staZp _ | .staAbs _ | .staIzy _ | .staZpx _ | .staAby _ | .staAbx _ => .sta
  | .stxZp _ | .stxAbs _ | .stxZpy _ => .stx
  | .styZp _ | .styAbs _ | .styZpx _ => .sty
  | .shs _ => .shs
  | .tax => .tax
  | .tay => .tay
  | .tsx => .tsx
  | .txa => .txa
  | .txs => .txs
  | .tya => .tya
  | .pha => .pha
  | .php => .php
  | .pla => .pla
  | .plp => .plp
  | .aslZp _ | .aslAcc | .aslAbs _ | .aslZpx _ | .aslAbx _ => .asl
  | .lsrZp _ | .lsrAcc | .lsrAbs _ | .lsrZpx _ | .lsrAbx _ => .lsr
  | .rolZp _ | .rolAcc | .rolAbs _ | .rolZpx _ | .rolAbx _ => .rol
  | .rorZp _ | .rorAcc | .rorAbs _ | .rorZpx _ | .rorAbx _ => .ror
  | .andIzx _ | .andZp _ | .andImm _ | .andAbs _ | .andIzy _ | .andZpx _ | .andAby _ | .andAbx _ => .and
  | .bitZp _ | .bitAbs _ => .bit
  | .eorIzx _ | .eorZp _ | .eorImm _ | .eorAbs _ | .eorIzy _ | .eorZpx _ | .eorAby _ | .eorAbx _ => .eor
  | .oraIzx _ | .oraZp _ | .oraImm _ | .oraAbs _ | .oraIzy _ | .oraZpx _ | .oraAby _ | .oraAbx _ => .ora
  | .adcIzx _ | .adcZp _ | .adcImm _ | .adcAbs _ | .adcIzy _ | .adcZpx _ | .adcAby _ | .adcAbx _ => .adc
  | .cmpIzx _ | .cmpZp _ | .cmpImm _ | .cmpAbs _ | .cmpIzy _ | .cmpZpx _ | .cmpAby _ | .cmpAbx _ => .cmp
  | .cpxImm _ | .cpxZp _ | .cpxAbs _ => .cpx
  | .cpyImm _ | .cpyZp _ | .cpyAbs _ => .cpy
  | .sbcIzx _ | .sbcZp _ | .sbcImm _ | .sbcImmEB _ | .sbcAbs _ | .sbcIzy _ | .sbcZpx _ | .sbcAby _ | .sbcAbx _
  => .sbc
  | .ancImm0B _ | .ancImm2B _ => .anc
  | .arr _ => .arr
  | .asr _ => .asr
  | .dcpIzx _ | .dcpZp _ | .dcpAbs _ | .dcpIzy _ | .dcpZpx _ | .dcpAby _ | .dcpAbx _ => .dcp
  | .iscIzx _ | .iscZp _ | .iscAbs _ | .iscIzy _ | .iscZpx _ | .iscAby _ | .iscAbx _ => .isc
  | .rlaIzx _ | .rlaZp _ | .rlaAbs _ | .rlaIzy _ | .rlaZpx _ | .rlaAby _ | .rlaAbx _ => .rla
  | .rraIzx _ | .rraZp _ | .rraAbs _ | .rraIzy _ | .rraZpx _ | .rraAby _ | .rraAbx _ => .rra
  | .sbx _ => .sbx
  | .sloIzx _ | .sloZp _ | .sloAbs _ | .sloIzy _ | .sloZpx _ | .sloAby _ | .sloAbx _ => .slo
  | .sreIzx _ | .sreZp _ | .sreAbs _ | .sreIzy _ | .sreZpx _ | .sreAby _ | .sreAbx _ => .sre
  | .xaa _ => .xaa
  | .decZp _ | .decAbs _ | .decZpx _ | .decAbx _ => .dec
  | .dex => .dex
  | .dey => .dey
  | .incZp _ | .incAbs _ | .incZpx _ | .incAbx _ => .inc
  | .inx => .inx
  | .iny => .iny
  | .brk => .brk
  | .jmpAbs _ | .jmpInd _ => .jmp
  | .jsr _ => .jsr
  | .rti => .rti
  | .rts => .rts
  | .bcc _ => .bcc
  | .bcs _ => .bcs
  | .beq _ => .beq
  | .bmi _ => .bmi
  | .bne _ => .bne
  | .bpl _ => .bpl
  | .bvc _ => .bvc
  | .bvs _ => .bvs
  | .nopZp04 _ | .nopAbs _ | .nopZpx14 _ | .nop1A | .nopAbx1C _ | .nopZpx34 _ | .nop3A | .nopAbx3C _ | .nopZp44 _
  | .nopZpx54 _ | .nop5A | .nopAbx5C _ | .nopZp64 _ | .nopZpx74 _ | .nop7A | .nopAbx7C _ | .nopImm80 _ | .nopImm82 _
  | .nopImm89 _ | .nopImmC2 _ | .nopZpxD4 _ | .nopDA | .nopAbxDC _ | .nopImmE2 _ | .nop | .nopZpxF4 _ | .nopFA
  | .nopAbxFC _ => .nop
  | .clc => .clc
  | .cld => .cld
  | .cli => .cli
  | .clv => .clv
  | .sec => .sec
  | .sed => .sed
  | .sei => .sei
  | .jam02 | .jam12 | .jam22 | .jam32 | .jam42 | .jam52 | .jam62 | .jam72 | .jam92 | .jamB2 | .jamD2 | .jamF2
  => .jam

/-- The operand of an instruction (`30_encoding.md` R77, `40_addressing.md` R100). -/
def Instr.operand : Instr → Operand
  | .tax | .tay | .tsx | .txa | .txs | .tya | .pha | .php | .pla | .plp | .dex | .dey | .inx | .iny | .brk | .rti
  | .rts | .nop1A | .nop3A | .nop5A | .nop7A | .nopDA | .nop | .nopFA | .clc | .cld | .cli | .clv | .sec | .sed
  | .sei | .jam02 | .jam12 | .jam22 | .jam32 | .jam42 | .jam52 | .jam62 | .jam72 | .jam92 | .jamB2 | .jamD2 | .jamF2
  => .implied
  | .aslAcc | .lsrAcc | .rolAcc | .rorAcc => .accumulator
  | .laxImm d | .ldaImm d | .ldxImm d | .ldyImm d | .andImm d | .eorImm d | .oraImm d | .adcImm d | .cmpImm d
  | .cpxImm d | .cpyImm d | .sbcImm d | .sbcImmEB d | .ancImm0B d | .ancImm2B d | .arr d | .asr d | .sbx d | .xaa d
  | .nopImm80 d | .nopImm82 d | .nopImm89 d | .nopImmC2 d | .nopImmE2 d => .immediate d
  | .laxZp b | .ldaZp b | .ldxZp b | .ldyZp b | .saxZp b | .staZp b | .stxZp b | .styZp b | .aslZp b | .lsrZp b
  | .rolZp b | .rorZp b | .andZp b | .bitZp b | .eorZp b | .oraZp b | .adcZp b | .cmpZp b | .cpxZp b | .cpyZp b
  | .sbcZp b | .dcpZp b | .iscZp b | .rlaZp b | .rraZp b | .sloZp b | .sreZp b | .decZp b | .incZp b | .nopZp04 b
  | .nopZp44 b | .nopZp64 b => .memory (.zp b)
  | .ldaZpx b | .ldyZpx b | .staZpx b | .styZpx b | .aslZpx b | .lsrZpx b | .rolZpx b | .rorZpx b | .andZpx b
  | .eorZpx b | .oraZpx b | .adcZpx b | .cmpZpx b | .sbcZpx b | .dcpZpx b | .iscZpx b | .rlaZpx b | .rraZpx b
  | .sloZpx b | .sreZpx b | .decZpx b | .incZpx b | .nopZpx14 b | .nopZpx34 b | .nopZpx54 b | .nopZpx74 b
  | .nopZpxD4 b | .nopZpxF4 b => .memory (.zpx b)
  | .laxZpy b | .ldxZpy b | .saxZpy b | .stxZpy b => .memory (.zpy b)
  | .laxAbs w | .ldaAbs w | .ldxAbs w | .ldyAbs w | .saxAbs w | .staAbs w | .stxAbs w | .styAbs w | .aslAbs w
  | .lsrAbs w | .rolAbs w | .rorAbs w | .andAbs w | .bitAbs w | .eorAbs w | .oraAbs w | .adcAbs w | .cmpAbs w
  | .cpxAbs w | .cpyAbs w | .sbcAbs w | .dcpAbs w | .iscAbs w | .rlaAbs w | .rraAbs w | .sloAbs w | .sreAbs w
  | .decAbs w | .incAbs w | .jmpAbs w | .jsr w | .nopAbs w => .memory (.abs w)
  | .ldaAbx w | .ldyAbx w | .shy w | .staAbx w | .aslAbx w | .lsrAbx w | .rolAbx w | .rorAbx w | .andAbx w
  | .eorAbx w | .oraAbx w | .adcAbx w | .cmpAbx w | .sbcAbx w | .dcpAbx w | .iscAbx w | .rlaAbx w | .rraAbx w
  | .sloAbx w | .sreAbx w | .decAbx w | .incAbx w | .nopAbx1C w | .nopAbx3C w | .nopAbx5C w | .nopAbx7C w
  | .nopAbxDC w | .nopAbxFC w => .memory (.abx w)
  | .las w | .laxAby w | .ldaAby w | .ldxAby w | .shaAby w | .shx w | .staAby w | .shs w | .andAby w | .eorAby w
  | .oraAby w | .adcAby w | .cmpAby w | .sbcAby w | .dcpAby w | .iscAby w | .rlaAby w | .rraAby w | .sloAby w
  | .sreAby w => .memory (.aby w)
  | .laxIzx b | .ldaIzx b | .saxIzx b | .staIzx b | .andIzx b | .eorIzx b | .oraIzx b | .adcIzx b | .cmpIzx b
  | .sbcIzx b | .dcpIzx b | .iscIzx b | .rlaIzx b | .rraIzx b | .sloIzx b | .sreIzx b => .memory (.izx b)
  | .laxIzy b | .ldaIzy b | .shaIzy b | .staIzy b | .andIzy b | .eorIzy b | .oraIzy b | .adcIzy b | .cmpIzy b
  | .sbcIzy b | .dcpIzy b | .iscIzy b | .rlaIzy b | .rraIzy b | .sloIzy b | .sreIzy b => .memory (.izy b)
  | .jmpInd w => .indirect w
  | .bcc r | .bcs r | .beq r | .bmi r | .bne r | .bpl r | .bvc r | .bvs r => .relative r

end Sys2Proof
end

