-- ==== Sys2Proof/Machine/Operands.lean ====
section
/-! DEFINITION. The thirteen addressing modes (`40_addressing.md` R100 to R112) and how an operand is read, written and
modified. -/

namespace Sys2Proof.Machine

/-- What resolving a memory operand gives: the address before indexing, the effective address, and the state after the
pointer reads of the mode. -/
structure Located where
  /-- the address before the last indexing ("the given address" of the undocumented stores) -/
  base : Word
  /-- `EA`, the effective address -/
  ea : Word
  /-- the state after the reads the mode makes -/
  after : State
deriving DecidableEq, Repr

/-- The effective address of a memory operand (`40_addressing.md` R104 to R110). -/
def locate (m : MemOperand) (s : State) : Located :=
  match m with
  | .zp b => { base := zeroPage b, ea := zeroPage b, after := s }
  | .zpx b => { base := zeroPage b, ea := zeroPage (b + s.x), after := s }
  | .zpy b => { base := zeroPage b, ea := zeroPage (b + s.y), after := s }
  | .abs w => { base := w, ea := w, after := s }
  | .abx w => { base := w, ea := w + zext16 s.x, after := s }
  | .aby w => { base := w, ea := w + zext16 s.y, after := s }
  | .izx b =>
    let ptr := s.readPair (zeroPage (b + s.x)) (zeroPage (b + s.x + 1))
    { base := ptr.1, ea := ptr.1, after := ptr.2 }
  | .izy b =>
    let ptr := s.readPair (zeroPage b) (zeroPage (b + 1))
    { base := ptr.1, ea := ptr.1 + zext16 s.y, after := ptr.2 }

/-- `p`: a page is crossed when the high byte of the indexed address differs from that of the base
(`40_addressing.md` R107, R108, R110). -/
def pageCrossed (base target : Word) : Bool := hiByte target != hiByte base

/-- `H1`, the upper 8 bits of the given address, plus 1 (`40_addressing.md` R118; log 24). -/
def upperPlusOne (l : Located) : Byte := hiByte l.base + 1

/-- What reading an operand gives: `M`, `p`, and the state after the reads. -/
structure Fetched where
  /-- `M`, the operand value -/
  value : Byte
  /-- `p`, the page-crossing bit -/
  crossed : Bool
  /-- the state after the reads -/
  after : State
deriving DecidableEq, Repr

/-- `M` of an immediate or memory operand (`40_addressing.md` R100, R103): for a memory operand one read of EA, after
the reads of the mode. -/
def fetchSource (src : Source) (s : State) : Fetched :=
  match src with
  | .imm d => { value := d, crossed := false, after := s }
  | .mem m =>
    let l := locate m s
    let r := l.after.busRead l.ea
    { value := r.1, crossed := pageCrossed l.base l.ea, after := r.2 }

/-- `Operand <- v` of a store: EA is computed and not read (`40_addressing.md` R100). -/
def storeTo (m : MemOperand) (v : Byte) (s : State) : State :=
  let l := locate m s
  l.after.busWrite l.ea v

/-- What a read/modify/write of a memory operand gives: the byte read, the byte written back, the state after. -/
structure Modified where
  /-- the byte read at EA -/
  old : Byte
  /-- the byte written back at EA -/
  new : Byte
  /-- the state after the write -/
  after : State
deriving DecidableEq, Repr

/-- A read/modify/write instruction reads `M`, then writes `Operand`, at the same EA, computed once
(`40_addressing.md` R100, `20_memory.md` R45). -/
def modify (m : MemOperand) (f : Byte → Byte) (s : State) : Modified :=
  let l := locate m s
  let r := l.after.busRead l.ea
  { old := r.1, new := f r.1, after := r.2.busWrite l.ea (f r.1) }

/-- The pointer of `JMP ($nnnn)`: its high byte comes from the same page, with no carry (`40_addressing.md` R111;
log 17). -/
def readIndirect (ptr : Word) (s : State) : Word × State :=
  s.readPair ptr (word (hiByte ptr) (loByte ptr + 1))

/-- The target of a branch: the displacement, signed, from the address of the next instruction
(`40_addressing.md` R112). -/
def branchTarget (pc : Word) (r : Byte) : Word := pc + 2 + sext16 r

/-- The length of an instruction with a memory operand (`30_encoding.md` R70, R76). -/
def memLength : MemOperand → Nat
  | .zp _ => 2
  | .zpx _ => 2
  | .zpy _ => 2
  | .abs _ => 3
  | .abx _ => 3
  | .aby _ => 3
  | .izx _ => 2
  | .izy _ => 2

/-- The length of an instruction with an immediate or memory operand (`30_encoding.md` R76). -/
def sourceLength : Source → Nat
  | .imm _ => 2
  | .mem m => memLength m

/-- The length of a shift or rotate (`30_encoding.md` R76). -/
def targetLength : Target → Nat
  | .acc => 1
  | .mem m => memLength m

/-- The length of an instruction by its operand (`30_encoding.md` R70, R76). -/
def operandLength : Operand → Nat
  | .implied => 1
  | .accumulator => 1
  | .immediate _ => 2
  | .memory m => memLength m
  | .indirect _ => 3
  | .relative _ => 2

end Sys2Proof.Machine
end

