-- ==== Sys2Proof/Machine/Timing.lean ====
section
/-! DEFINITION. The cycle counts by mode and kind of instruction (`70_reset_and_hazards.md` R360, R361). No register,
flag or memory byte depends on them. -/

namespace Sys2Proof.Machine

/-- `+p`: one cycle more if a page is crossed (R360). -/
def pageCycles (crossed : Bool) : Nat := crossed.toNat

/-- The cycles of an instruction that reads its operand (R361, column "read"). -/
def readCycles (src : Source) (crossed : Bool) : Nat :=
  match src with
  | .imm _ => 2
  | .mem (.zp _) => 3
  | .mem (.zpx _) => 4
  | .mem (.zpy _) => 4
  | .mem (.abs _) => 4
  | .mem (.abx _) => 4 + pageCycles crossed
  | .mem (.aby _) => 4 + pageCycles crossed
  | .mem (.izx _) => 6
  | .mem (.izy _) => 5 + pageCycles crossed

/-- The cycles of a store (R361, column "store"). -/
def storeCycles : MemOperand → Nat
  | .zp _ => 3
  | .zpx _ => 4
  | .zpy _ => 4
  | .abs _ => 4
  | .abx _ => 5
  | .aby _ => 5
  | .izx _ => 6
  | .izy _ => 6

/-- The cycles of a read/modify/write of memory (R361, column "read/modify/write"). -/
def modifyCycles : MemOperand → Nat
  | .zp _ => 5
  | .zpx _ => 6
  | .zpy _ => 6
  | .abs _ => 6
  | .abx _ => 7
  | .aby _ => 7
  | .izx _ => 8
  | .izy _ => 8

/-- The cycles of a shift or rotate (R361). -/
def shiftCycles : Target → Nat
  | .acc => 2
  | .mem m => modifyCycles m

/-- The cycles of a branch, `2+t+p` (`48_branch_flags.md` R280). -/
def branchCycles (taken : Bool) (next target : Word) : Nat :=
  if taken then 3 + pageCycles (pageCrossed next target) else 2

end Sys2Proof.Machine
end

