-- ==== Sys2Proof/Machine/Arith.lean ====
section
/-! DEFINITION. Addition, subtraction and comparison (`44_arith.md` R200 to R203, R210). -/

namespace Sys2Proof.Machine

/-- ADC (R200, R204 to R207): A + M + C into A; N, V, Z, C; decimal when D = 1. -/
def adc (src : Source) (s : State) : State :=
  let f := fetchSource src s
  (f.after.adc f.value).finish (sourceLength src) (readCycles src f.crossed)

/-- CMP (R201): the comparison of A with M. -/
def cmp (src : Source) (s : State) : State :=
  let f := fetchSource src s
  (f.after.compare f.after.a f.value).finish (sourceLength src) (readCycles src f.crossed)

/-- CPX (R202): the comparison of X with M. -/
def cpx (src : Source) (s : State) : State :=
  let f := fetchSource src s
  (f.after.compare f.after.x f.value).finish (sourceLength src) (readCycles src f.crossed)

/-- CPY (R203): the comparison of Y with M. -/
def cpy (src : Source) (s : State) : State :=
  let f := fetchSource src s
  (f.after.compare f.after.y f.value).finish (sourceLength src) (readCycles src f.crossed)

/-- SBC (R210, R204, R205, R208): A - M - (1 - C) into A; N, V, Z, C; decimal when D = 1. -/
def sbc (src : Source) (s : State) : State :=
  let f := fetchSource src s
  (f.after.sbc f.value).finish (sourceLength src) (readCycles src f.crossed)

/-- `ADC ($nn,X)`, $61 (R200, R109). -/
def execAdcIzx (b : Byte) (s : State) : Result := .next (adc (.mem (.izx b)) s)

/-- `ADC $nn`, $65 (R200, R104). -/
def execAdcZp (b : Byte) (s : State) : Result := .next (adc (.mem (.zp b)) s)

/-- `ADC #$nn`, $69 (R200, R103). -/
def execAdcImm (d : Byte) (s : State) : Result := .next (adc (.imm d) s)

/-- `ADC $nnnn`, $6D (R200, R106). -/
def execAdcAbs (w : Word) (s : State) : Result := .next (adc (.mem (.abs w)) s)

/-- `ADC ($nn),Y`, $71 (R200, R110). -/
def execAdcIzy (b : Byte) (s : State) : Result := .next (adc (.mem (.izy b)) s)

/-- `ADC $nn,X`, $75 (R200, R104). -/
def execAdcZpx (b : Byte) (s : State) : Result := .next (adc (.mem (.zpx b)) s)

/-- `ADC $nnnn,Y`, $79 (R200, R108). -/
def execAdcAby (w : Word) (s : State) : Result := .next (adc (.mem (.aby w)) s)

/-- `ADC $nnnn,X`, $7D (R200, R107). -/
def execAdcAbx (w : Word) (s : State) : Result := .next (adc (.mem (.abx w)) s)

/-- `CMP ($nn,X)`, $C1 (R201, R109). -/
def execCmpIzx (b : Byte) (s : State) : Result := .next (cmp (.mem (.izx b)) s)

/-- `CMP $nn`, $C5 (R201, R104). -/
def execCmpZp (b : Byte) (s : State) : Result := .next (cmp (.mem (.zp b)) s)

/-- `CMP #$nn`, $C9 (R201, R103). -/
def execCmpImm (d : Byte) (s : State) : Result := .next (cmp (.imm d) s)

/-- `CMP $nnnn`, $CD (R201, R106). -/
def execCmpAbs (w : Word) (s : State) : Result := .next (cmp (.mem (.abs w)) s)

/-- `CMP ($nn),Y`, $D1 (R201, R110). -/
def execCmpIzy (b : Byte) (s : State) : Result := .next (cmp (.mem (.izy b)) s)

/-- `CMP $nn,X`, $D5 (R201, R104). -/
def execCmpZpx (b : Byte) (s : State) : Result := .next (cmp (.mem (.zpx b)) s)

/-- `CMP $nnnn,Y`, $D9 (R201, R108). -/
def execCmpAby (w : Word) (s : State) : Result := .next (cmp (.mem (.aby w)) s)

/-- `CMP $nnnn,X`, $DD (R201, R107). -/
def execCmpAbx (w : Word) (s : State) : Result := .next (cmp (.mem (.abx w)) s)

/-- `CPX #$nn`, $E0 (R202, R103). -/
def execCpxImm (d : Byte) (s : State) : Result := .next (cpx (.imm d) s)

/-- `CPX $nn`, $E4 (R202, R104). -/
def execCpxZp (b : Byte) (s : State) : Result := .next (cpx (.mem (.zp b)) s)

/-- `CPX $nnnn`, $EC (R202, R106). -/
def execCpxAbs (w : Word) (s : State) : Result := .next (cpx (.mem (.abs w)) s)

/-- `CPY #$nn`, $C0 (R203, R103). -/
def execCpyImm (d : Byte) (s : State) : Result := .next (cpy (.imm d) s)

/-- `CPY $nn`, $C4 (R203, R104). -/
def execCpyZp (b : Byte) (s : State) : Result := .next (cpy (.mem (.zp b)) s)

/-- `CPY $nnnn`, $CC (R203, R106). -/
def execCpyAbs (w : Word) (s : State) : Result := .next (cpy (.mem (.abs w)) s)

/-- `SBC ($nn,X)`, $E1 (R210, R109). -/
def execSbcIzx (b : Byte) (s : State) : Result := .next (sbc (.mem (.izx b)) s)

/-- `SBC $nn`, $E5 (R210, R104). -/
def execSbcZp (b : Byte) (s : State) : Result := .next (sbc (.mem (.zp b)) s)

/-- `SBC #$nn`, $E9 (R210, R103). -/
def execSbcImm (d : Byte) (s : State) : Result := .next (sbc (.imm d) s)

/-- `SBC #$nn`, $EB (R210, R103). -/
def execSbcImmEB (d : Byte) (s : State) : Result := .next (sbc (.imm d) s)

/-- `SBC $nnnn`, $ED (R210, R106). -/
def execSbcAbs (w : Word) (s : State) : Result := .next (sbc (.mem (.abs w)) s)

/-- `SBC ($nn),Y`, $F1 (R210, R110). -/
def execSbcIzy (b : Byte) (s : State) : Result := .next (sbc (.mem (.izy b)) s)

/-- `SBC $nn,X`, $F5 (R210, R104). -/
def execSbcZpx (b : Byte) (s : State) : Result := .next (sbc (.mem (.zpx b)) s)

/-- `SBC $nnnn,Y`, $F9 (R210, R108). -/
def execSbcAby (w : Word) (s : State) : Result := .next (sbc (.mem (.aby w)) s)

/-- `SBC $nnnn,X`, $FD (R210, R107). -/
def execSbcAbx (w : Word) (s : State) : Result := .next (sbc (.mem (.abx w)) s)

end Sys2Proof.Machine
end

