-- ==== Sys2Proof/Machine/Branch.lean ====
section
/-! DEFINITION. The conditional branches (`48_branch_flags.md` R280 to R288). -/

namespace Sys2Proof.Machine

/-- The common shape of the eight (R280): nothing is written but PC, and then only if the condition holds. -/
def branch (taken : Bool) (r : Byte) (s : State) : State :=
  let next := s.pc + 2
  let target := branchTarget s.pc r
  (s.setPc (if taken then target else next)).tick (branchCycles taken next target)

/-- `BCC $nnnn`, $90 (R281, R112). -/
def execBcc (r : Byte) (s : State) : Result := .next (branch (!s.p.c) r s)

/-- `BCS $nnnn`, $B0 (R282, R112). -/
def execBcs (r : Byte) (s : State) : Result := .next (branch s.p.c r s)

/-- `BEQ $nnnn`, $F0 (R283, R112). -/
def execBeq (r : Byte) (s : State) : Result := .next (branch s.p.z r s)

/-- `BMI $nnnn`, $30 (R284, R112). -/
def execBmi (r : Byte) (s : State) : Result := .next (branch s.p.n r s)

/-- `BNE $nnnn`, $D0 (R285, R112). -/
def execBne (r : Byte) (s : State) : Result := .next (branch (!s.p.z) r s)

/-- `BPL $nnnn`, $10 (R286, R112). -/
def execBpl (r : Byte) (s : State) : Result := .next (branch (!s.p.n) r s)

/-- `BVC $nnnn`, $50 (R287, R112). -/
def execBvc (r : Byte) (s : State) : Result := .next (branch (!s.p.v) r s)

/-- `BVS $nnnn`, $70 (R288, R112). -/
def execBvs (r : Byte) (s : State) : Result := .next (branch s.p.v r s)

end Sys2Proof.Machine
end

