-- ==== Sys2Proof/Machine/Control.lean ====
section
/-! DEFINITION. Control transfer (`47_control.md` R260 to R265). PC is the address of the instruction's own opcode. -/

namespace Sys2Proof.Machine

/-- BRK (R260): the interrupt sequence with PC + 2 as return address, B = 1, and the vector at $FFFE. -/
def brk (s : State) : State := s.interruptSequence (s.pc + 2) true irqVector

/-- JMP absolute (R261). -/
def jmp (target : Word) (s : State) : State := (s.setPc target).tick 3

/-- JMP indirect (R262). -/
def jmpIndirect (ptr : Word) (s : State) : State :=
  let r := readIndirect ptr s
  (r.2.setPc r.1).tick 5

/-- JSR (R263): the address of its own last byte is pushed, high byte first (log 29). -/
def jsr (target : Word) (s : State) : State := ((s.pushWord (s.pc + 2)).setPc target).tick 6

/-- RTI (R264). -/
def rti (s : State) : State := s.returnFromInterrupt

/-- RTS (R265): the pulled address plus 1, modulo 65536. -/
def rts (s : State) : State :=
  let r := s.pullWord
  (r.2.setPc (r.1 + 1)).tick 6

/-- `BRK`, $00 (R260). -/
def execBrk (s : State) : Result := .next (brk s)

/-- `JMP $nnnn`, $4C (R261, R106). -/
def execJmpAbs (w : Word) (s : State) : Result := .next (jmp w s)

/-- `JMP ($nnnn)`, $6C (R262, R111). -/
def execJmpInd (w : Word) (s : State) : Result := .next (jmpIndirect w s)

/-- `JSR $nnnn`, $20 (R263, R106). -/
def execJsr (w : Word) (s : State) : Result := .next (jsr w s)

/-- `RTI`, $40 (R264). -/
def execRti (s : State) : Result := .next (rti s)

/-- `RTS`, $60 (R265). -/
def execRts (s : State) : Result := .next (rts s)

end Sys2Proof.Machine
end

