-- ==== Sys2Proof/Machine/FlagInstr.lean ====
section
/-! DEFINITION. The flag instructions (`48_branch_flags.md` R289 to R295). -/

namespace Sys2Proof.Machine

/-- One flag is written; 1 byte, 2 cycles. -/
def writeFlags (p : Status) (s : State) : State := (s.setP p).finish 1 2

/-- `CLC`, $18 (R289). -/
def execClc (s : State) : Result := .next (writeFlags { s.p with c := false } s)

/-- `CLD`, $D8 (R290). -/
def execCld (s : State) : Result := .next (writeFlags { s.p with d := false } s)

/-- `CLI`, $58 (R291). -/
def execCli (s : State) : Result := .next (writeFlags { s.p with i := false } s)

/-- `CLV`, $B8 (R292). -/
def execClv (s : State) : Result := .next (writeFlags { s.p with v := false } s)

/-- `SEC`, $38 (R293). -/
def execSec (s : State) : Result := .next (writeFlags { s.p with c := true } s)

/-- `SED`, $F8 (R294). -/
def execSed (s : State) : Result := .next (writeFlags { s.p with d := true } s)

/-- `SEI`, $78 (R295). -/
def execSei (s : State) : Result := .next (writeFlags { s.p with i := true } s)

end Sys2Proof.Machine
end

