-- ==== Sys2Proof/Machine/IncDec.lean ====
section
/-! DEFINITION. Increment and decrement (`46_incdec.md` R250 to R255). -/

namespace Sys2Proof.Machine

/-- A memory byte becomes `f` of itself; N and Z from the new byte (R250, R253). -/
def stepMemory (f : Byte → Byte) (m : MemOperand) (s : State) : State :=
  let w := modify m f s
  (w.after.setNZ w.new).finish (memLength m) (modifyCycles m)

/-- DEC (R250). -/
def dec (m : MemOperand) (s : State) : State := stepMemory (· - 1) m s

/-- DEX (R251). -/
def dex (s : State) : State := ((s.setX (s.x - 1)).setNZ (s.x - 1)).finish 1 2

/-- DEY (R252). -/
def dey (s : State) : State := ((s.setY (s.y - 1)).setNZ (s.y - 1)).finish 1 2

/-- INC (R253). -/
def inc (m : MemOperand) (s : State) : State := stepMemory (· + 1) m s

/-- INX (R254). -/
def inx (s : State) : State := ((s.setX (s.x + 1)).setNZ (s.x + 1)).finish 1 2

/-- INY (R255). -/
def iny (s : State) : State := ((s.setY (s.y + 1)).setNZ (s.y + 1)).finish 1 2

/-- `DEC $nn`, $C6 (R250, R104). -/
def execDecZp (b : Byte) (s : State) : Result := .next (dec (.zp b) s)

/-- `DEC $nnnn`, $CE (R250, R106). -/
def execDecAbs (w : Word) (s : State) : Result := .next (dec (.abs w) s)

/-- `DEC $nn,X`, $D6 (R250, R104). -/
def execDecZpx (b : Byte) (s : State) : Result := .next (dec (.zpx b) s)

/-- `DEC $nnnn,X`, $DE (R250, R107). -/
def execDecAbx (w : Word) (s : State) : Result := .next (dec (.abx w) s)

/-- `DEX`, $CA (R251). -/
def execDex (s : State) : Result := .next (dex s)

/-- `DEY`, $88 (R252). -/
def execDey (s : State) : Result := .next (dey s)

/-- `INC $nn`, $E6 (R253, R104). -/
def execIncZp (b : Byte) (s : State) : Result := .next (inc (.zp b) s)

/-- `INC $nnnn`, $EE (R253, R106). -/
def execIncAbs (w : Word) (s : State) : Result := .next (inc (.abs w) s)

/-- `INC $nn,X`, $F6 (R253, R104). -/
def execIncZpx (b : Byte) (s : State) : Result := .next (inc (.zpx b) s)

/-- `INC $nnnn,X`, $FE (R253, R107). -/
def execIncAbx (w : Word) (s : State) : Result := .next (inc (.abx w) s)

/-- `INX`, $E8 (R254). -/
def execInx (s : State) : Result := .next (inx s)

/-- `INY`, $C8 (R255). -/
def execIny (s : State) : Result := .next (iny s)

end Sys2Proof.Machine
end

