-- ==== Sys2Proof/Machine/JamNop.lean ====
section
/-! DEFINITION. JAM and NOP (`49_jam_nop.md` R300 to R303). -/

namespace Sys2Proof.Machine

/-- JAM (R300): the core halts; PC stays at the opcode, nothing else changes (log 28). -/
def jam (s : State) : State := { s with halted := true }

/-- NOP without operand (R301). -/
def nopImplied (s : State) : State := s.finish 1 2

/-- NOP with an operand (R302, R303): the operand is read and discarded (log 19). -/
def nopRead (src : Source) (s : State) : State :=
  let f := fetchSource src s
  f.after.finish (sourceLength src) (readCycles src f.crossed)

/-- `JAM`, $02 (R300). -/
def execJam02 (s : State) : Result := .next (jam s)

/-- `JAM`, $12 (R300). -/
def execJam12 (s : State) : Result := .next (jam s)

/-- `JAM`, $22 (R300). -/
def execJam22 (s : State) : Result := .next (jam s)

/-- `JAM`, $32 (R300). -/
def execJam32 (s : State) : Result := .next (jam s)

/-- `JAM`, $42 (R300). -/
def execJam42 (s : State) : Result := .next (jam s)

/-- `JAM`, $52 (R300). -/
def execJam52 (s : State) : Result := .next (jam s)

/-- `JAM`, $62 (R300). -/
def execJam62 (s : State) : Result := .next (jam s)

/-- `JAM`, $72 (R300). -/
def execJam72 (s : State) : Result := .next (jam s)

/-- `JAM`, $92 (R300). -/
def execJam92 (s : State) : Result := .next (jam s)

/-- `JAM`, $B2 (R300). -/
def execJamB2 (s : State) : Result := .next (jam s)

/-- `JAM`, $D2 (R300). -/
def execJamD2 (s : State) : Result := .next (jam s)

/-- `JAM`, $F2 (R300). -/
def execJamF2 (s : State) : Result := .next (jam s)

/-- `NOP $nn`, $04 (R303, R104). -/
def execNopZp04 (b : Byte) (s : State) : Result := .next (nopRead (.mem (.zp b)) s)

/-- `NOP $nnnn`, $0C (R303, R106). -/
def execNopAbs (w : Word) (s : State) : Result := .next (nopRead (.mem (.abs w)) s)

/-- `NOP $nn,X`, $14 (R303, R104). -/
def execNopZpx14 (b : Byte) (s : State) : Result := .next (nopRead (.mem (.zpx b)) s)

/-- `NOP`, $1A (R301). -/
def execNop1A (s : State) : Result := .next (nopImplied s)

/-- `NOP $nnnn,X`, $1C (R303, R107). -/
def execNopAbx1C (w : Word) (s : State) : Result := .next (nopRead (.mem (.abx w)) s)

/-- `NOP $nn,X`, $34 (R303, R104). -/
def execNopZpx34 (b : Byte) (s : State) : Result := .next (nopRead (.mem (.zpx b)) s)

/-- `NOP`, $3A (R301). -/
def execNop3A (s : State) : Result := .next (nopImplied s)

/-- `NOP $nnnn,X`, $3C (R303, R107). -/
def execNopAbx3C (w : Word) (s : State) : Result := .next (nopRead (.mem (.abx w)) s)

/-- `NOP $nn`, $44 (R303, R104). -/
def execNopZp44 (b : Byte) (s : State) : Result := .next (nopRead (.mem (.zp b)) s)

/-- `NOP $nn,X`, $54 (R303, R104). -/
def execNopZpx54 (b : Byte) (s : State) : Result := .next (nopRead (.mem (.zpx b)) s)

/-- `NOP`, $5A (R301). -/
def execNop5A (s : State) : Result := .next (nopImplied s)

/-- `NOP $nnnn,X`, $5C (R303, R107). -/
def execNopAbx5C (w : Word) (s : State) : Result := .next (nopRead (.mem (.abx w)) s)

/-- `NOP $nn`, $64 (R303, R104). -/
def execNopZp64 (b : Byte) (s : State) : Result := .next (nopRead (.mem (.zp b)) s)

/-- `NOP $nn,X`, $74 (R303, R104). -/
def execNopZpx74 (b : Byte) (s : State) : Result := .next (nopRead (.mem (.zpx b)) s)

/-- `NOP`, $7A (R301). -/
def execNop7A (s : State) : Result := .next (nopImplied s)

/-- `NOP $nnnn,X`, $7C (R303, R107). -/
def execNopAbx7C (w : Word) (s : State) : Result := .next (nopRead (.mem (.abx w)) s)

/-- `NOP #$nn`, $80 (R302, R103). -/
def execNopImm80 (d : Byte) (s : State) : Result := .next (nopRead (.imm d) s)

/-- `NOP #$nn`, $82 (R302, R103). -/
def execNopImm82 (d : Byte) (s : State) : Result := .next (nopRead (.imm d) s)

/-- `NOP #$nn`, $89 (R302, R103). -/
def execNopImm89 (d : Byte) (s : State) : Result := .next (nopRead (.imm d) s)

/-- `NOP #$nn`, $C2 (R302, R103). -/
def execNopImmC2 (d : Byte) (s : State) : Result := .next (nopRead (.imm d) s)

/-- `NOP $nn,X`, $D4 (R303, R104). -/
def execNopZpxD4 (b : Byte) (s : State) : Result := .next (nopRead (.mem (.zpx b)) s)

/-- `NOP`, $DA (R301). -/
def execNopDA (s : State) : Result := .next (nopImplied s)

/-- `NOP $nnnn,X`, $DC (R303, R107). -/
def execNopAbxDC (w : Word) (s : State) : Result := .next (nopRead (.mem (.abx w)) s)

/-- `NOP #$nn`, $E2 (R302, R103). -/
def execNopImmE2 (d : Byte) (s : State) : Result := .next (nopRead (.imm d) s)

/-- `NOP`, $EA (R301). -/
def execNop (s : State) : Result := .next (nopImplied s)

/-- `NOP $nn,X`, $F4 (R303, R104). -/
def execNopZpxF4 (b : Byte) (s : State) : Result := .next (nopRead (.mem (.zpx b)) s)

/-- `NOP`, $FA (R301). -/
def execNopFA (s : State) : Result := .next (nopImplied s)

/-- `NOP $nnnn,X`, $FC (R303, R107). -/
def execNopAbxFC (w : Word) (s : State) : Result := .next (nopRead (.mem (.abx w)) s)

end Sys2Proof.Machine
end

