-- ==== Sys2Proof/Machine/Load.lean ====
section
/-! DEFINITION. The loads (`41_load_store.md` R130 to R134). -/

namespace Sys2Proof.Machine

/-- LAS (R130): M AND S goes to A, X and S; N and Z from it. -/
def las (src : Source) (s : State) : State :=
  let f := fetchSource src s
  let t := f.value &&& f.after.sp
  ((((f.after.setA t).setX t).setSp t).setNZ t).finish (sourceLength src) (readCycles src f.crossed)

/-- LAX (R131): M goes to A and X; N and Z from it. The immediate form is the same plain load (log 13). -/
def lax (src : Source) (s : State) : State :=
  let f := fetchSource src s
  (((f.after.setA f.value).setX f.value).setNZ f.value).finish (sourceLength src) (readCycles src f.crossed)

/-- LDA (R132): M goes to A; N and Z from it. -/
def lda (src : Source) (s : State) : State :=
  let f := fetchSource src s
  ((f.after.setA f.value).setNZ f.value).finish (sourceLength src) (readCycles src f.crossed)

/-- LDX (R133): M goes to X; N and Z from it. -/
def ldx (src : Source) (s : State) : State :=
  let f := fetchSource src s
  ((f.after.setX f.value).setNZ f.value).finish (sourceLength src) (readCycles src f.crossed)

/-- LDY (R134): M goes to Y; N and Z from it. -/
def ldy (src : Source) (s : State) : State :=
  let f := fetchSource src s
  ((f.after.setY f.value).setNZ f.value).finish (sourceLength src) (readCycles src f.crossed)

/-- `LAS $nnnn,Y`, $BB (R130, R108). -/
def execLas (w : Word) (s : State) : Result := .next (las (.mem (.aby w)) s)

/-- `LAX ($nn,X)`, $A3 (R131, R109). -/
def execLaxIzx (b : Byte) (s : State) : Result := .next (lax (.mem (.izx b)) s)

/-- `LAX $nn`, $A7 (R131, R104). -/
def execLaxZp (b : Byte) (s : State) : Result := .next (lax (.mem (.zp b)) s)

/-- `LAX #$nn`, $AB (R131, R103). -/
def execLaxImm (d : Byte) (s : State) : Result := .next (lax (.imm d) s)

/-- `LAX $nnnn`, $AF (R131, R106). -/
def execLaxAbs (w : Word) (s : State) : Result := .next (lax (.mem (.abs w)) s)

/-- `LAX ($nn),Y`, $B3 (R131, R110). -/
def execLaxIzy (b : Byte) (s : State) : Result := .next (lax (.mem (.izy b)) s)

/-- `LAX $nn,Y`, $B7 (R131, R105). -/
def execLaxZpy (b : Byte) (s : State) : Result := .next (lax (.mem (.zpy b)) s)

/-- `LAX $nnnn,Y`, $BF (R131, R108). -/
def execLaxAby (w : Word) (s : State) : Result := .next (lax (.mem (.aby w)) s)

/-- `LDA ($nn,X)`, $A1 (R132, R109). -/
def execLdaIzx (b : Byte) (s : State) : Result := .next (lda (.mem (.izx b)) s)

/-- `LDA $nn`, $A5 (R132, R104). -/
def execLdaZp (b : Byte) (s : State) : Result := .next (lda (.mem (.zp b)) s)

/-- `LDA #$nn`, $A9 (R132, R103). -/
def execLdaImm (d : Byte) (s : State) : Result := .next (lda (.imm d) s)

/-- `LDA $nnnn`, $AD (R132, R106). -/
def execLdaAbs (w : Word) (s : State) : Result := .next (lda (.mem (.abs w)) s)

/-- `LDA ($nn),Y`, $B1 (R132, R110). -/
def execLdaIzy (b : Byte) (s : State) : Result := .next (lda (.mem (.izy b)) s)

/-- `LDA $nn,X`, $B5 (R132, R104). -/
def execLdaZpx (b : Byte) (s : State) : Result := .next (lda (.mem (.zpx b)) s)

/-- `LDA $nnnn,Y`, $B9 (R132, R108). -/
def execLdaAby (w : Word) (s : State) : Result := .next (lda (.mem (.aby w)) s)

/-- `LDA $nnnn,X`, $BD (R132, R107). -/
def execLdaAbx (w : Word) (s : State) : Result := .next (lda (.mem (.abx w)) s)

/-- `LDX #$nn`, $A2 (R133, R103). -/
def execLdxImm (d : Byte) (s : State) : Result := .next (ldx (.imm d) s)

/-- `LDX $nn`, $A6 (R133, R104). -/
def execLdxZp (b : Byte) (s : State) : Result := .next (ldx (.mem (.zp b)) s)

/-- `LDX $nnnn`, $AE (R133, R106). -/
def execLdxAbs (w : Word) (s : State) : Result := .next (ldx (.mem (.abs w)) s)

/-- `LDX $nn,Y`, $B6 (R133, R105). -/
def execLdxZpy (b : Byte) (s : State) : Result := .next (ldx (.mem (.zpy b)) s)

/-- `LDX $nnnn,Y`, $BE (R133, R108). -/
def execLdxAby (w : Word) (s : State) : Result := .next (ldx (.mem (.aby w)) s)

/-- `LDY #$nn`, $A0 (R134, R103). -/
def execLdyImm (d : Byte) (s : State) : Result := .next (ldy (.imm d) s)

/-- `LDY $nn`, $A4 (R134, R104). -/
def execLdyZp (b : Byte) (s : State) : Result := .next (ldy (.mem (.zp b)) s)

/-- `LDY $nnnn`, $AC (R134, R106). -/
def execLdyAbs (w : Word) (s : State) : Result := .next (ldy (.mem (.abs w)) s)

/-- `LDY $nn,X`, $B4 (R134, R104). -/
def execLdyZpx (b : Byte) (s : State) : Result := .next (ldy (.mem (.zpx b)) s)

/-- `LDY $nnnn,X`, $BC (R134, R107). -/
def execLdyAbx (w : Word) (s : State) : Result := .next (ldy (.mem (.abx w)) s)

end Sys2Proof.Machine
end

