-- ==== Sys2Proof/Machine/Logic.lean ====
section
/-! DEFINITION. The logic instructions (`43_shift_logic.md` R185 to R188). -/

namespace Sys2Proof.Machine

/-- A logic operation of A with M into A; N and Z from it (R185, R187, R188). -/
def logic (f : Byte → Byte → Byte) (src : Source) (s : State) : State :=
  let o := fetchSource src s
  let r := f o.after.a o.value
  ((o.after.setA r).setNZ r).finish (sourceLength src) (readCycles src o.crossed)

/-- AND (R185). -/
def andA (src : Source) (s : State) : State := logic (· &&& ·) src s

/-- BIT (R186): N and V are bits 7 and 6 of M, Z is that of A AND M; A is unchanged. -/
def bitTest (src : Source) (s : State) : State :=
  let f := fetchSource src s
  (f.after.setP
    { f.after.p with
      n := f.value.getLsbD 7
      v := f.value.getLsbD 6
      z := (f.after.a &&& f.value) == 0x00#8 }).finish (sourceLength src) (readCycles src f.crossed)

/-- EOR (R187). -/
def eor (src : Source) (s : State) : State := logic (· ^^^ ·) src s

/-- ORA (R188). -/
def ora (src : Source) (s : State) : State := logic (· ||| ·) src s

/-- `AND ($nn,X)`, $21 (R185, R109). -/
def execAndIzx (b : Byte) (s : State) : Result := .next (andA (.mem (.izx b)) s)

/-- `AND $nn`, $25 (R185, R104). -/
def execAndZp (b : Byte) (s : State) : Result := .next (andA (.mem (.zp b)) s)

/-- `AND #$nn`, $29 (R185, R103). -/
def execAndImm (d : Byte) (s : State) : Result := .next (andA (.imm d) s)

/-- `AND $nnnn`, $2D (R185, R106). -/
def execAndAbs (w : Word) (s : State) : Result := .next (andA (.mem (.abs w)) s)

/-- `AND ($nn),Y`, $31 (R185, R110). -/
def execAndIzy (b : Byte) (s : State) : Result := .next (andA (.mem (.izy b)) s)

/-- `AND $nn,X`, $35 (R185, R104). -/
def execAndZpx (b : Byte) (s : State) : Result := .next (andA (.mem (.zpx b)) s)

/-- `AND $nnnn,Y`, $39 (R185, R108). -/
def execAndAby (w : Word) (s : State) : Result := .next (andA (.mem (.aby w)) s)

/-- `AND $nnnn,X`, $3D (R185, R107). -/
def execAndAbx (w : Word) (s : State) : Result := .next (andA (.mem (.abx w)) s)

/-- `BIT $nn`, $24 (R186, R104). -/
def execBitZp (b : Byte) (s : State) : Result := .next (bitTest (.mem (.zp b)) s)

/-- `BIT $nnnn`, $2C (R186, R106). -/
def execBitAbs (w : Word) (s : State) : Result := .next (bitTest (.mem (.abs w)) s)

/-- `EOR ($nn,X)`, $41 (R187, R109). -/
def execEorIzx (b : Byte) (s : State) : Result := .next (eor (.mem (.izx b)) s)

/-- `EOR $nn`, $45 (R187, R104). -/
def execEorZp (b : Byte) (s : State) : Result := .next (eor (.mem (.zp b)) s)

/-- `EOR #$nn`, $49 (R187, R103). -/
def execEorImm (d : Byte) (s : State) : Result := .next (eor (.imm d) s)

/-- `EOR $nnnn`, $4D (R187, R106). -/
def execEorAbs (w : Word) (s : State) : Result := .next (eor (.mem (.abs w)) s)

/-- `EOR ($nn),Y`, $51 (R187, R110). -/
def execEorIzy (b : Byte) (s : State) : Result := .next (eor (.mem (.izy b)) s)

/-- `EOR $nn,X`, $55 (R187, R104). -/
def execEorZpx (b : Byte) (s : State) : Result := .next (eor (.mem (.zpx b)) s)

/-- `EOR $nnnn,Y`, $59 (R187, R108). -/
def execEorAby (w : Word) (s : State) : Result := .next (eor (.mem (.aby w)) s)

/-- `EOR $nnnn,X`, $5D (R187, R107). -/
def execEorAbx (w : Word) (s : State) : Result := .next (eor (.mem (.abx w)) s)

/-- `ORA ($nn,X)`, $01 (R188, R109). -/
def execOraIzx (b : Byte) (s : State) : Result := .next (ora (.mem (.izx b)) s)

/-- `ORA $nn`, $05 (R188, R104). -/
def execOraZp (b : Byte) (s : State) : Result := .next (ora (.mem (.zp b)) s)

/-- `ORA #$nn`, $09 (R188, R103). -/
def execOraImm (d : Byte) (s : State) : Result := .next (ora (.imm d) s)

/-- `ORA $nnnn`, $0D (R188, R106). -/
def execOraAbs (w : Word) (s : State) : Result := .next (ora (.mem (.abs w)) s)

/-- `ORA ($nn),Y`, $11 (R188, R110). -/
def execOraIzy (b : Byte) (s : State) : Result := .next (ora (.mem (.izy b)) s)

/-- `ORA $nn,X`, $15 (R188, R104). -/
def execOraZpx (b : Byte) (s : State) : Result := .next (ora (.mem (.zpx b)) s)

/-- `ORA $nnnn,Y`, $19 (R188, R108). -/
def execOraAby (w : Word) (s : State) : Result := .next (ora (.mem (.aby w)) s)

/-- `ORA $nnnn,X`, $1D (R188, R107). -/
def execOraAbx (w : Word) (s : State) : Result := .next (ora (.mem (.abx w)) s)

end Sys2Proof.Machine
end

