-- ==== Sys2Proof/Machine/Shift.lean ====
section
/-! DEFINITION. The shifts and rotates (`43_shift_logic.md` R180 to R184). -/

namespace Sys2Proof.Machine

/-- C from the bit shifted out, N and Z from the result (R181 to R184; LSR's result has bit 7 = 0, so N = 0). -/
def setShiftFlags (r : ShiftResult) (s : State) : State := (s.setC r.carry).setNZ r.value

/-- The common shape of the four (R180): the accumulator, or one read and one write of EA; the flags follow. -/
def shift (f : Byte → Bool → ShiftResult) (t : Target) (s : State) : State :=
  match t with
  | .acc =>
    let r := f s.a s.p.c
    (setShiftFlags r (s.setA r.value)).finish (targetLength t) (shiftCycles t)
  | .mem m =>
    let w := modify m (fun b => (f b s.p.c).value) s
    (setShiftFlags (f w.old s.p.c) w.after).finish (targetLength t) (shiftCycles t)

/-- ASL (R181). -/
def asl (t : Target) (s : State) : State := shift aslByte t s

/-- LSR (R182). -/
def lsr (t : Target) (s : State) : State := shift lsrByte t s

/-- ROL (R183). -/
def rol (t : Target) (s : State) : State := shift rolByte t s

/-- ROR (R184). -/
def ror (t : Target) (s : State) : State := shift rorByte t s

/-- `ASL $nn`, $06 (R181, R104). -/
def execAslZp (b : Byte) (s : State) : Result := .next (asl (.mem (.zp b)) s)

/-- `ASL A`, $0A (R181, R102). -/
def execAslAcc (s : State) : Result := .next (asl .acc s)

/-- `ASL $nnnn`, $0E (R181, R106). -/
def execAslAbs (w : Word) (s : State) : Result := .next (asl (.mem (.abs w)) s)

/-- `ASL $nn,X`, $16 (R181, R104). -/
def execAslZpx (b : Byte) (s : State) : Result := .next (asl (.mem (.zpx b)) s)

/-- `ASL $nnnn,X`, $1E (R181, R107). -/
def execAslAbx (w : Word) (s : State) : Result := .next (asl (.mem (.abx w)) s)

/-- `LSR $nn`, $46 (R182, R104). -/
def execLsrZp (b : Byte) (s : State) : Result := .next (lsr (.mem (.zp b)) s)

/-- `LSR A`, $4A (R182, R102). -/
def execLsrAcc (s : State) : Result := .next (lsr .acc s)

/-- `LSR $nnnn`, $4E (R182, R106). -/
def execLsrAbs (w : Word) (s : State) : Result := .next (lsr (.mem (.abs w)) s)

/-- `LSR $nn,X`, $56 (R182, R104). -/
def execLsrZpx (b : Byte) (s : State) : Result := .next (lsr (.mem (.zpx b)) s)

/-- `LSR $nnnn,X`, $5E (R182, R107). -/
def execLsrAbx (w : Word) (s : State) : Result := .next (lsr (.mem (.abx w)) s)

/-- `ROL $nn`, $26 (R183, R104). -/
def execRolZp (b : Byte) (s : State) : Result := .next (rol (.mem (.zp b)) s)

/-- `ROL A`, $2A (R183, R102). -/
def execRolAcc (s : State) : Result := .next (rol .acc s)

/-- `ROL $nnnn`, $2E (R183, R106). -/
def execRolAbs (w : Word) (s : State) : Result := .next (rol (.mem (.abs w)) s)

/-- `ROL $nn,X`, $36 (R183, R104). -/
def execRolZpx (b : Byte) (s : State) : Result := .next (rol (.mem (.zpx b)) s)

/-- `ROL $nnnn,X`, $3E (R183, R107). -/
def execRolAbx (w : Word) (s : State) : Result := .next (rol (.mem (.abx w)) s)

/-- `ROR $nn`, $66 (R184, R104). -/
def execRorZp (b : Byte) (s : State) : Result := .next (ror (.mem (.zp b)) s)

/-- `ROR A`, $6A (R184, R102). -/
def execRorAcc (s : State) : Result := .next (ror .acc s)

/-- `ROR $nnnn`, $6E (R184, R106). -/
def execRorAbs (w : Word) (s : State) : Result := .next (ror (.mem (.abs w)) s)

/-- `ROR $nn,X`, $76 (R184, R104). -/
def execRorZpx (b : Byte) (s : State) : Result := .next (ror (.mem (.zpx b)) s)

/-- `ROR $nnnn,X`, $7E (R184, R107). -/
def execRorAbx (w : Word) (s : State) : Result := .next (ror (.mem (.abx w)) s)

end Sys2Proof.Machine
end

