-- ==== Sys2Proof/Machine/Stack.lean ====
section
/-! DEFINITION. The stack instructions (`42_transfer_stack.md` R167 to R170). -/

namespace Sys2Proof.Machine

/-- PHA (R167): A is pushed. -/
def pha (s : State) : State := (s.push s.a).finish 1 3

/-- PHP (R168): P is pushed, with bit 5 and the B position as 1. -/
def php (s : State) : State := (s.push (s.p.toByte true)).finish 1 3

/-- PLA (R169): A is pulled; N and Z from it. -/
def pla (s : State) : State :=
  let r := s.pull
  ((r.2.setA r.1).setNZ r.1).finish 1 4

/-- PLP (R170): P is pulled, bits 5 and 4 discarded. -/
def plp (s : State) : State :=
  let r := s.pull
  (r.2.setP (Status.ofByte r.1)).finish 1 4

/-- `PHA`, $48 (R167). -/
def execPha (s : State) : Result := .next (pha s)

/-- `PHP`, $08 (R168). -/
def execPhp (s : State) : Result := .next (php s)

/-- `PLA`, $68 (R169). -/
def execPla (s : State) : Result := .next (pla s)

/-- `PLP`, $28 (R170). -/
def execPlp (s : State) : Result := .next (plp s)

end Sys2Proof.Machine
end

