-- ==== Sys2Proof/Machine/Store.lean ====
section
/-! DEFINITION. The stores (`41_load_store.md` R135 to R141). -/

namespace Sys2Proof.Machine

/-- Storing a register value `v` at EA: one write, no read, no flag (R142). -/
def storeValue (m : MemOperand) (v : Byte) (s : State) : State :=
  (storeTo m v s).finish (memLength m) (storeCycles m)

/-- Storing `v AND H1` at EA, H1 from the address before indexing (`40_addressing.md` R118; logs 14, 24). -/
def storeHigh (m : MemOperand) (v : Byte) (s : State) : State :=
  storeValue m (v &&& upperPlusOne (locate m s)) s

/-- SAX (R135): A AND X is stored. -/
def sax (m : MemOperand) (s : State) : State := storeValue m (s.a &&& s.x) s

/-- SHA (R136): A AND X AND H1 is stored. -/
def sha (m : MemOperand) (s : State) : State := storeHigh m (s.a &&& s.x) s

/-- SHX (R137): X AND H1 is stored. -/
def shx (m : MemOperand) (s : State) : State := storeHigh m s.x s

/-- SHY (R138): Y AND H1 is stored. -/
def shy (m : MemOperand) (s : State) : State := storeHigh m s.y s

/-- STA (R139): A is stored. -/
def sta (m : MemOperand) (s : State) : State := storeValue m s.a s

/-- STX (R140): X is stored. -/
def stx (m : MemOperand) (s : State) : State := storeValue m s.x s

/-- STY (R141): Y is stored. -/
def sty (m : MemOperand) (s : State) : State := storeValue m s.y s

/-- `SAX ($nn,X)`, $83 (R135, R109). -/
def execSaxIzx (b : Byte) (s : State) : Result := .next (sax (.izx b) s)

/-- `SAX $nn`, $87 (R135, R104). -/
def execSaxZp (b : Byte) (s : State) : Result := .next (sax (.zp b) s)

/-- `SAX $nnnn`, $8F (R135, R106). -/
def execSaxAbs (w : Word) (s : State) : Result := .next (sax (.abs w) s)

/-- `SAX $nn,Y`, $97 (R135, R105). -/
def execSaxZpy (b : Byte) (s : State) : Result := .next (sax (.zpy b) s)

/-- `SHA ($nn),Y`, $93 (R136, R110). -/
def execShaIzy (b : Byte) (s : State) : Result := .next (sha (.izy b) s)

/-- `SHA $nnnn,Y`, $9F (R136, R108). -/
def execShaAby (w : Word) (s : State) : Result := .next (sha (.aby w) s)

/-- `SHX $nnnn,Y`, $9E (R137, R108). -/
def execShx (w : Word) (s : State) : Result := .next (shx (.aby w) s)

/-- `SHY $nnnn,X`, $9C (R138, R107). -/
def execShy (w : Word) (s : State) : Result := .next (shy (.abx w) s)

/-- `STA ($nn,X)`, $81 (R139, R109). -/
def execStaIzx (b : Byte) (s : State) : Result := .next (sta (.izx b) s)

/-- `STA $nn`, $85 (R139, R104). -/
def execStaZp (b : Byte) (s : State) : Result := .next (sta (.zp b) s)

/-- `STA $nnnn`, $8D (R139, R106). -/
def execStaAbs (w : Word) (s : State) : Result := .next (sta (.abs w) s)

/-- `STA ($nn),Y`, $91 (R139, R110). -/
def execStaIzy (b : Byte) (s : State) : Result := .next (sta (.izy b) s)

/-- `STA $nn,X`, $95 (R139, R104). -/
def execStaZpx (b : Byte) (s : State) : Result := .next (sta (.zpx b) s)

/-- `STA $nnnn,Y`, $99 (R139, R108). -/
def execStaAby (w : Word) (s : State) : Result := .next (sta (.aby w) s)

/-- `STA $nnnn,X`, $9D (R139, R107). -/
def execStaAbx (w : Word) (s : State) : Result := .next (sta (.abx w) s)

/-- `STX $nn`, $86 (R140, R104). -/
def execStxZp (b : Byte) (s : State) : Result := .next (stx (.zp b) s)

/-- `STX $nnnn`, $8E (R140, R106). -/
def execStxAbs (w : Word) (s : State) : Result := .next (stx (.abs w) s)

/-- `STX $nn,Y`, $96 (R140, R105). -/
def execStxZpy (b : Byte) (s : State) : Result := .next (stx (.zpy b) s)

/-- `STY $nn`, $84 (R141, R104). -/
def execStyZp (b : Byte) (s : State) : Result := .next (sty (.zp b) s)

/-- `STY $nnnn`, $8C (R141, R106). -/
def execStyAbs (w : Word) (s : State) : Result := .next (sty (.abs w) s)

/-- `STY $nn,X`, $94 (R141, R104). -/
def execStyZpx (b : Byte) (s : State) : Result := .next (sty (.zpx b) s)

end Sys2Proof.Machine
end

