-- ==== Sys2Proof/Machine/Transfer.lean ====
section
/-! DEFINITION. The register transfers (`42_transfer_stack.md` R160 to R166). -/

namespace Sys2Proof.Machine

/-- SHS (R160): A AND X goes to S, then S AND H1 is stored at EA (logs 14, 33). -/
def shs (m : MemOperand) (s : State) : State := storeHigh m (s.a &&& s.x) (s.setSp (s.a &&& s.x))

/-- TAX (R161): A goes to X; N and Z from it. -/
def tax (s : State) : State := ((s.setX s.a).setNZ s.a).finish 1 2

/-- TAY (R162): A goes to Y; N and Z from it. -/
def tay (s : State) : State := ((s.setY s.a).setNZ s.a).finish 1 2

/-- TSX (R163): S goes to X; N and Z from it. -/
def tsx (s : State) : State := ((s.setX s.sp).setNZ s.sp).finish 1 2

/-- TXA (R164): X goes to A; N and Z from it. -/
def txa (s : State) : State := ((s.setA s.x).setNZ s.x).finish 1 2

/-- TXS (R165): X goes to S; no flag is written. -/
def txs (s : State) : State := (s.setSp s.x).finish 1 2

/-- TYA (R166): Y goes to A; N and Z from it. -/
def tya (s : State) : State := ((s.setA s.y).setNZ s.y).finish 1 2

/-- `SHS $nnnn,Y`, $9B (R160, R108). -/
def execShs (w : Word) (s : State) : Result := .next (shs (.aby w) s)

/-- `TAX`, $AA (R161). -/
def execTax (s : State) : Result := .next (tax s)

/-- `TAY`, $A8 (R162). -/
def execTay (s : State) : Result := .next (tay s)

/-- `TSX`, $BA (R163). -/
def execTsx (s : State) : Result := .next (tsx s)

/-- `TXA`, $8A (R164). -/
def execTxa (s : State) : Result := .next (txa s)

/-- `TXS`, $9A (R165). -/
def execTxs (s : State) : Result := .next (txs s)

/-- `TYA`, $98 (R166). -/
def execTya (s : State) : Result := .next (tya s)

end Sys2Proof.Machine
end

