-- ==== Sys2Proof/Machine/Undocumented.lean ====
section
/-! DEFINITION. The undocumented arithmetic (`45_arith_undocumented.md` R220 to R230, R240). -/

namespace Sys2Proof.Machine

/-- ANC (R220): A AND M into A; N and Z from it; C is the new N. -/
def anc (d : Byte) (s : State) : State :=
  let r := s.a &&& d
  (((s.setA r).setNZ r).setC (r.getLsbD 7)).finish 2 2

/-- ARR (R221): A AND M, rotated right through C, into A; N and Z from it; V and C by the mode P.D selects. -/
def arr (d : Byte) (s : State) : State :=
  let r := arrResult s.p.d (s.a &&& d) s.p.c
  let t := (s.setA r.value).setNZ r.value
  (t.setP { t.p with v := r.v, c := r.c }).finish 2 2

/-- ASR (R222): A AND M, shifted right, into A; C is bit 0 of the AND; N = 0; Z from the result. -/
def asr (d : Byte) (s : State) : State :=
  let r := lsrByte (s.a &&& d) s.p.c
  (((s.setA r.value).setC r.carry).setNZ r.value).finish 2 2

/-- DCP (R223): memory is decremented, then A is compared with the new byte. -/
def dcp (m : MemOperand) (s : State) : State :=
  let w := modify m (· - 1) s
  (w.after.compare w.after.a w.new).finish (memLength m) (modifyCycles m)

/-- ISC (R224): memory is incremented, then the new byte is subtracted with borrow, decimal when D = 1. -/
def isc (m : MemOperand) (s : State) : State :=
  let w := modify m (· + 1) s
  (w.after.sbc w.new).finish (memLength m) (modifyCycles m)

/-- Memory is shifted or rotated, C is the bit shifted out, and A becomes `g A new`; N and Z from A (R225, R228,
R229, in the shape of R230). -/
def shiftThen (f : Byte → Bool → ShiftResult) (g : Byte → Byte → Byte) (m : MemOperand) (s : State) : State :=
  let w := modify m (fun b => (f b s.p.c).value) s
  let t := w.after.setC (f w.old s.p.c).carry
  let r := g t.a w.new
  ((t.setA r).setNZ r).finish (memLength m) (modifyCycles m)

/-- RLA (R225): ROL of memory, then AND. -/
def rla (m : MemOperand) (s : State) : State := shiftThen rolByte (· &&& ·) m s

/-- RRA (R226): ROR of memory, then ADC of the new byte with the carry just generated, decimal when D = 1. -/
def rra (m : MemOperand) (s : State) : State :=
  let w := modify m (fun b => (rorByte b s.p.c).value) s
  ((w.after.setC (rorByte w.old s.p.c).carry).adc w.new).finish (memLength m) (modifyCycles m)

/-- SBX (R227): (A AND X) - M into X; C from the unsigned comparison; N and Z from X. -/
def sbx (d : Byte) (s : State) : State :=
  let t := s.a &&& s.x
  ((s.compare t d).setX (t - d)).finish 2 2

/-- SLO (R228): ASL of memory, then ORA. -/
def slo (m : MemOperand) (s : State) : State := shiftThen aslByte (· ||| ·) m s

/-- SRE (R229): LSR of memory, then EOR. -/
def sre (m : MemOperand) (s : State) : State := shiftThen lsrByte (· ^^^ ·) m s

/-- XAA (R240, level 1): A becomes a free byte, one per execution; N and Z from it (log 11). -/
def xaa (_d : Byte) (s : State) : State :=
  let r := s.drawByte
  ((r.2.setA r.1).setNZ r.1).finish 2 2

/-- `ANC #$nn`, $0B (R220, R103). -/
def execAncImm0B (d : Byte) (s : State) : Result := .next (anc d s)

/-- `ANC #$nn`, $2B (R220, R103). -/
def execAncImm2B (d : Byte) (s : State) : Result := .next (anc d s)

/-- `ARR #$nn`, $6B (R221, R103). -/
def execArr (d : Byte) (s : State) : Result := .next (arr d s)

/-- `ASR #$nn`, $4B (R222, R103). -/
def execAsr (d : Byte) (s : State) : Result := .next (asr d s)

/-- `DCP ($nn,X)`, $C3 (R223, R109). -/
def execDcpIzx (b : Byte) (s : State) : Result := .next (dcp (.izx b) s)

/-- `DCP $nn`, $C7 (R223, R104). -/
def execDcpZp (b : Byte) (s : State) : Result := .next (dcp (.zp b) s)

/-- `DCP $nnnn`, $CF (R223, R106). -/
def execDcpAbs (w : Word) (s : State) : Result := .next (dcp (.abs w) s)

/-- `DCP ($nn),Y`, $D3 (R223, R110). -/
def execDcpIzy (b : Byte) (s : State) : Result := .next (dcp (.izy b) s)

/-- `DCP $nn,X`, $D7 (R223, R104). -/
def execDcpZpx (b : Byte) (s : State) : Result := .next (dcp (.zpx b) s)

/-- `DCP $nnnn,Y`, $DB (R223, R108). -/
def execDcpAby (w : Word) (s : State) : Result := .next (dcp (.aby w) s)

/-- `DCP $nnnn,X`, $DF (R223, R107). -/
def execDcpAbx (w : Word) (s : State) : Result := .next (dcp (.abx w) s)

/-- `ISC ($nn,X)`, $E3 (R224, R109). -/
def execIscIzx (b : Byte) (s : State) : Result := .next (isc (.izx b) s)

/-- `ISC $nn`, $E7 (R224, R104). -/
def execIscZp (b : Byte) (s : State) : Result := .next (isc (.zp b) s)

/-- `ISC $nnnn`, $EF (R224, R106). -/
def execIscAbs (w : Word) (s : State) : Result := .next (isc (.abs w) s)

/-- `ISC ($nn),Y`, $F3 (R224, R110). -/
def execIscIzy (b : Byte) (s : State) : Result := .next (isc (.izy b) s)

/-- `ISC $nn,X`, $F7 (R224, R104). -/
def execIscZpx (b : Byte) (s : State) : Result := .next (isc (.zpx b) s)

/-- `ISC $nnnn,Y`, $FB (R224, R108). -/
def execIscAby (w : Word) (s : State) : Result := .next (isc (.aby w) s)

/-- `ISC $nnnn,X`, $FF (R224, R107). -/
def execIscAbx (w : Word) (s : State) : Result := .next (isc (.abx w) s)

/-- `RLA ($nn,X)`, $23 (R225, R109). -/
def execRlaIzx (b : Byte) (s : State) : Result := .next (rla (.izx b) s)

/-- `RLA $nn`, $27 (R225, R104). -/
def execRlaZp (b : Byte) (s : State) : Result := .next (rla (.zp b) s)

/-- `RLA $nnnn`, $2F (R225, R106). -/
def execRlaAbs (w : Word) (s : State) : Result := .next (rla (.abs w) s)

/-- `RLA ($nn),Y`, $33 (R225, R110). -/
def execRlaIzy (b : Byte) (s : State) : Result := .next (rla (.izy b) s)

/-- `RLA $nn,X`, $37 (R225, R104). -/
def execRlaZpx (b : Byte) (s : State) : Result := .next (rla (.zpx b) s)

/-- `RLA $nnnn,Y`, $3B (R225, R108). -/
def execRlaAby (w : Word) (s : State) : Result := .next (rla (.aby w) s)

/-- `RLA $nnnn,X`, $3F (R225, R107). -/
def execRlaAbx (w : Word) (s : State) : Result := .next (rla (.abx w) s)

/-- `RRA ($nn,X)`, $63 (R226, R109). -/
def execRraIzx (b : Byte) (s : State) : Result := .next (rra (.izx b) s)

/-- `RRA $nn`, $67 (R226, R104). -/
def execRraZp (b : Byte) (s : State) : Result := .next (rra (.zp b) s)

/-- `RRA $nnnn`, $6F (R226, R106). -/
def execRraAbs (w : Word) (s : State) : Result := .next (rra (.abs w) s)

/-- `RRA ($nn),Y`, $73 (R226, R110). -/
def execRraIzy (b : Byte) (s : State) : Result := .next (rra (.izy b) s)

/-- `RRA $nn,X`, $77 (R226, R104). -/
def execRraZpx (b : Byte) (s : State) : Result := .next (rra (.zpx b) s)

/-- `RRA $nnnn,Y`, $7B (R226, R108). -/
def execRraAby (w : Word) (s : State) : Result := .next (rra (.aby w) s)

/-- `RRA $nnnn,X`, $7F (R226, R107). -/
def execRraAbx (w : Word) (s : State) : Result := .next (rra (.abx w) s)

/-- `SBX #$nn`, $CB (R227, R103). -/
def execSbx (d : Byte) (s : State) : Result := .next (sbx d s)

/-- `SLO ($nn,X)`, $03 (R228, R109). -/
def execSloIzx (b : Byte) (s : State) : Result := .next (slo (.izx b) s)

/-- `SLO $nn`, $07 (R228, R104). -/
def execSloZp (b : Byte) (s : State) : Result := .next (slo (.zp b) s)

/-- `SLO $nnnn`, $0F (R228, R106). -/
def execSloAbs (w : Word) (s : State) : Result := .next (slo (.abs w) s)

/-- `SLO ($nn),Y`, $13 (R228, R110). -/
def execSloIzy (b : Byte) (s : State) : Result := .next (slo (.izy b) s)

/-- `SLO $nn,X`, $17 (R228, R104). -/
def execSloZpx (b : Byte) (s : State) : Result := .next (slo (.zpx b) s)

/-- `SLO $nnnn,Y`, $1B (R228, R108). -/
def execSloAby (w : Word) (s : State) : Result := .next (slo (.aby w) s)

/-- `SLO $nnnn,X`, $1F (R228, R107). -/
def execSloAbx (w : Word) (s : State) : Result := .next (slo (.abx w) s)

/-- `SRE ($nn,X)`, $43 (R229, R109). -/
def execSreIzx (b : Byte) (s : State) : Result := .next (sre (.izx b) s)

/-- `SRE $nn`, $47 (R229, R104). -/
def execSreZp (b : Byte) (s : State) : Result := .next (sre (.zp b) s)

/-- `SRE $nnnn`, $4F (R229, R106). -/
def execSreAbs (w : Word) (s : State) : Result := .next (sre (.abs w) s)

/-- `SRE ($nn),Y`, $53 (R229, R110). -/
def execSreIzy (b : Byte) (s : State) : Result := .next (sre (.izy b) s)

/-- `SRE $nn,X`, $57 (R229, R104). -/
def execSreZpx (b : Byte) (s : State) : Result := .next (sre (.zpx b) s)

/-- `SRE $nnnn,Y`, $5B (R229, R108). -/
def execSreAby (w : Word) (s : State) : Result := .next (sre (.aby w) s)

/-- `SRE $nnnn,X`, $5F (R229, R107). -/
def execSreAbx (w : Word) (s : State) : Result := .next (sre (.abx w) s)

/-- `XAA #$nn`, $8B (R240, R103). -/
def execXaa (d : Byte) (s : State) : Result := .next (xaa d s)

end Sys2Proof.Machine
end

