-- ==== Sys2Proof/Machine/Dispatch.lean ====
section
/-! DEFINITION. The dispatch: one arm per instruction, one direct call of its meaning. -/

namespace Sys2Proof.Machine

def exec (i : Instr) (s : State) : Host.Outcome State Fault Refusal :=
  match i with
  | .las w => Sys2Proof.Machine.execLas w s
  | .laxIzx b => Sys2Proof.Machine.execLaxIzx b s
  | .laxZp b => Sys2Proof.Machine.execLaxZp b s
  | .laxImm d => Sys2Proof.Machine.execLaxImm d s
  | .laxAbs w => Sys2Proof.Machine.execLaxAbs w s
  | .laxIzy b => Sys2Proof.Machine.execLaxIzy b s
  | .laxZpy b => Sys2Proof.Machine.execLaxZpy b s
  | .laxAby w => Sys2Proof.Machine.execLaxAby w s
  | .ldaIzx b => Sys2Proof.Machine.execLdaIzx b s
  | .ldaZp b => Sys2Proof.Machine.execLdaZp b s
  | .ldaImm d => Sys2Proof.Machine.execLdaImm d s
  | .ldaAbs w => Sys2Proof.Machine.execLdaAbs w s
  | .ldaIzy b => Sys2Proof.Machine.execLdaIzy b s
  | .ldaZpx b => Sys2Proof.Machine.execLdaZpx b s
  | .ldaAby w => Sys2Proof.Machine.execLdaAby w s
  | .ldaAbx w => Sys2Proof.Machine.execLdaAbx w s
  | .ldxImm d => Sys2Proof.Machine.execLdxImm d s
  | .ldxZp b => Sys2Proof.Machine.execLdxZp b s
  | .ldxAbs w => Sys2Proof.Machine.execLdxAbs w s
  | .ldxZpy b => Sys2Proof.Machine.execLdxZpy b s
  | .ldxAby w => Sys2Proof.Machine.execLdxAby w s
  | .ldyImm d => Sys2Proof.Machine.execLdyImm d s
  | .ldyZp b => Sys2Proof.Machine.execLdyZp b s
  | .ldyAbs w => Sys2Proof.Machine.execLdyAbs w s
  | .ldyZpx b => Sys2Proof.Machine.execLdyZpx b s
  | .ldyAbx w => Sys2Proof.Machine.execLdyAbx w s
  | .saxIzx b => Sys2Proof.Machine.execSaxIzx b s
  | .saxZp b => Sys2Proof.Machine.execSaxZp b s
  | .saxAbs w => Sys2Proof.Machine.execSaxAbs w s
  | .saxZpy b => Sys2Proof.Machine.execSaxZpy b s
  | .shaIzy b => Sys2Proof.Machine.execShaIzy b s
  | .shaAby w => Sys2Proof.Machine.execShaAby w s
  | .shx w => Sys2Proof.Machine.execShx w s
  | .shy w => Sys2Proof.Machine.execShy w s
  | .staIzx b => Sys2Proof.Machine.execStaIzx b s
  | .staZp b => Sys2Proof.Machine.execStaZp b s
  | .staAbs w => Sys2Proof.Machine.execStaAbs w s
  | .staIzy b => Sys2Proof.Machine.execStaIzy b s
  | .staZpx b => Sys2Proof.Machine.execStaZpx b s
  | .staAby w => Sys2Proof.Machine.execStaAby w s
  | .staAbx w => Sys2Proof.Machine.execStaAbx w s
  | .stxZp b => Sys2Proof.Machine.execStxZp b s
  | .stxAbs w => Sys2Proof.Machine.execStxAbs w s
  | .stxZpy b => Sys2Proof.Machine.execStxZpy b s
  | .styZp b => Sys2Proof.Machine.execStyZp b s
  | .styAbs w => Sys2Proof.Machine.execStyAbs w s
  | .styZpx b => Sys2Proof.Machine.execStyZpx b s
  | .shs w => Sys2Proof.Machine.execShs w s
  | .tax => Sys2Proof.Machine.execTax s
  | .tay => Sys2Proof.Machine.execTay s
  | .tsx => Sys2Proof.Machine.execTsx s
  | .txa => Sys2Proof.Machine.execTxa s
  | .txs => Sys2Proof.Machine.execTxs s
  | .tya => Sys2Proof.Machine.execTya s
  | .pha => Sys2Proof.Machine.execPha s
  | .php => Sys2Proof.Machine.execPhp s
  | .pla => Sys2Proof.Machine.execPla s
  | .plp => Sys2Proof.Machine.execPlp s
  | .aslZp b => Sys2Proof.Machine.execAslZp b s
  | .aslAcc => Sys2Proof.Machine.execAslAcc s
  | .aslAbs w => Sys2Proof.Machine.execAslAbs w s
  | .aslZpx b => Sys2Proof.Machine.execAslZpx b s
  | .aslAbx w => Sys2Proof.Machine.execAslAbx w s
  | .lsrZp b => Sys2Proof.Machine.execLsrZp b s
  | .lsrAcc => Sys2Proof.Machine.execLsrAcc s
  | .lsrAbs w => Sys2Proof.Machine.execLsrAbs w s
  | .lsrZpx b => Sys2Proof.Machine.execLsrZpx b s
  | .lsrAbx w => Sys2Proof.Machine.execLsrAbx w s
  | .rolZp b => Sys2Proof.Machine.execRolZp b s
  | .rolAcc => Sys2Proof.Machine.execRolAcc s
  | .rolAbs w => Sys2Proof.Machine.execRolAbs w s
  | .rolZpx b => Sys2Proof.Machine.execRolZpx b s
  | .rolAbx w => Sys2Proof.Machine.execRolAbx w s
  | .rorZp b => Sys2Proof.Machine.execRorZp b s
  | .rorAcc => Sys2Proof.Machine.execRorAcc s
  | .rorAbs w => Sys2Proof.Machine.execRorAbs w s
  | .rorZpx b => Sys2Proof.Machine.execRorZpx b s
  | .rorAbx w => Sys2Proof.Machine.execRorAbx w s
  | .andIzx b => Sys2Proof.Machine.execAndIzx b s
  | .andZp b => Sys2Proof.Machine.execAndZp b s
  | .andImm d => Sys2Proof.Machine.execAndImm d s
  | .andAbs w => Sys2Proof.Machine.execAndAbs w s
  | .andIzy b => Sys2Proof.Machine.execAndIzy b s
  | .andZpx b => Sys2Proof.Machine.execAndZpx b s
  | .andAby w => Sys2Proof.Machine.execAndAby w s
  | .andAbx w => Sys2Proof.Machine.execAndAbx w s
  | .bitZp b => Sys2Proof.Machine.execBitZp b s
  | .bitAbs w => Sys2Proof.Machine.execBitAbs w s
  | .eorIzx b => Sys2Proof.Machine.execEorIzx b s
  | .eorZp b => Sys2Proof.Machine.execEorZp b s
  | .eorImm d => Sys2Proof.Machine.execEorImm d s
  | .eorAbs w => Sys2Proof.Machine.execEorAbs w s
  | .eorIzy b => Sys2Proof.Machine.execEorIzy b s
  | .eorZpx b => Sys2Proof.Machine.execEorZpx b s
  | .eorAby w => Sys2Proof.Machine.execEorAby w s
  | .eorAbx w => Sys2Proof.Machine.execEorAbx w s
  | .oraIzx b => Sys2Proof.Machine.execOraIzx b s
  | .oraZp b => Sys2Proof.Machine.execOraZp b s
  | .oraImm d => Sys2Proof.Machine.execOraImm d s
  | .oraAbs w => Sys2Proof.Machine.execOraAbs w s
  | .oraIzy b => Sys2Proof.Machine.execOraIzy b s
  | .oraZpx b => Sys2Proof.Machine.execOraZpx b s
  | .oraAby w => Sys2Proof.Machine.execOraAby w s
  | .oraAbx w => Sys2Proof.Machine.execOraAbx w s
  | .adcIzx b => Sys2Proof.Machine.execAdcIzx b s
  | .adcZp b => Sys2Proof.Machine.execAdcZp b s
  | .adcImm d => Sys2Proof.Machine.execAdcImm d s
  | .adcAbs w => Sys2Proof.Machine.execAdcAbs w s
  | .adcIzy b => Sys2Proof.Machine.execAdcIzy b s
  | .adcZpx b => Sys2Proof.Machine.execAdcZpx b s
  | .adcAby w => Sys2Proof.Machine.execAdcAby w s
  | .adcAbx w => Sys2Proof.Machine.execAdcAbx w s
  | .cmpIzx b => Sys2Proof.Machine.execCmpIzx b s
  | .cmpZp b => Sys2Proof.Machine.execCmpZp b s
  | .cmpImm d => Sys2Proof.Machine.execCmpImm d s
  | .cmpAbs w => Sys2Proof.Machine.execCmpAbs w s
  | .cmpIzy b => Sys2Proof.Machine.execCmpIzy b s
  | .cmpZpx b => Sys2Proof.Machine.execCmpZpx b s
  | .cmpAby w => Sys2Proof.Machine.execCmpAby w s
  | .cmpAbx w => Sys2Proof.Machine.execCmpAbx w s
  | .cpxImm d => Sys2Proof.Machine.execCpxImm d s
  | .cpxZp b => Sys2Proof.Machine.execCpxZp b s
  | .cpxAbs w => Sys2Proof.Machine.execCpxAbs w s
  | .cpyImm d => Sys2Proof.Machine.execCpyImm d s
  | .cpyZp b => Sys2Proof.Machine.execCpyZp b s
  | .cpyAbs w => Sys2Proof.Machine.execCpyAbs w s
  | .sbcIzx b => Sys2Proof.Machine.execSbcIzx b s
  | .sbcZp b => Sys2Proof.Machine.execSbcZp b s
  | .sbcImm d => Sys2Proof.Machine.execSbcImm d s
  | .sbcImmEB d => Sys2Proof.Machine.execSbcImmEB d s
  | .sbcAbs w => Sys2Proof.Machine.execSbcAbs w s
  | .sbcIzy b => Sys2Proof.Machine.execSbcIzy b s
  | .sbcZpx b => Sys2Proof.Machine.execSbcZpx b s
  | .sbcAby w => Sys2Proof.Machine.execSbcAby w s
  | .sbcAbx w => Sys2Proof.Machine.execSbcAbx w s
  | .ancImm0B d => Sys2Proof.Machine.execAncImm0B d s
  | .ancImm2B d => Sys2Proof.Machine.execAncImm2B d s
  | .arr d => Sys2Proof.Machine.execArr d s
  | .asr d => Sys2Proof.Machine.execAsr d s
  | .dcpIzx b => Sys2Proof.Machine.execDcpIzx b s
  | .dcpZp b => Sys2Proof.Machine.execDcpZp b s
  | .dcpAbs w => Sys2Proof.Machine.execDcpAbs w s
  | .dcpIzy b => Sys2Proof.Machine.execDcpIzy b s
  | .dcpZpx b => Sys2Proof.Machine.execDcpZpx b s
  | .dcpAby w => Sys2Proof.Machine.execDcpAby w s
  | .dcpAbx w => Sys2Proof.Machine.execDcpAbx w s
  | .iscIzx b => Sys2Proof.Machine.execIscIzx b s
  | .iscZp b => Sys2Proof.Machine.execIscZp b s
  | .iscAbs w => Sys2Proof.Machine.execIscAbs w s
  | .iscIzy b => Sys2Proof.Machine.execIscIzy b s
  | .iscZpx b => Sys2Proof.Machine.execIscZpx b s
  | .iscAby w => Sys2Proof.Machine.execIscAby w s
  | .iscAbx w => Sys2Proof.Machine.execIscAbx w s
  | .rlaIzx b => Sys2Proof.Machine.execRlaIzx b s
  | .rlaZp b => Sys2Proof.Machine.execRlaZp b s
  | .rlaAbs w => Sys2Proof.Machine.execRlaAbs w s
  | .rlaIzy b => Sys2Proof.Machine.execRlaIzy b s
  | .rlaZpx b => Sys2Proof.Machine.execRlaZpx b s
  | .rlaAby w => Sys2Proof.Machine.execRlaAby w s
  | .rlaAbx w => Sys2Proof.Machine.execRlaAbx w s
  | .rraIzx b => Sys2Proof.Machine.execRraIzx b s
  | .rraZp b => Sys2Proof.Machine.execRraZp b s
  | .rraAbs w => Sys2Proof.Machine.execRraAbs w s
  | .rraIzy b => Sys2Proof.Machine.execRraIzy b s
  | .rraZpx b => Sys2Proof.Machine.execRraZpx b s
  | .rraAby w => Sys2Proof.Machine.execRraAby w s
  | .rraAbx w => Sys2Proof.Machine.execRraAbx w s
  | .sbx d => Sys2Proof.Machine.execSbx d s
  | .sloIzx b => Sys2Proof.Machine.execSloIzx b s
  | .sloZp b => Sys2Proof.Machine.execSloZp b s
  | .sloAbs w => Sys2Proof.Machine.execSloAbs w s
  | .sloIzy b => Sys2Proof.Machine.execSloIzy b s
  | .sloZpx b => Sys2Proof.Machine.execSloZpx b s
  | .sloAby w => Sys2Proof.Machine.execSloAby w s
  | .sloAbx w => Sys2Proof.Machine.execSloAbx w s
  | .sreIzx b => Sys2Proof.Machine.execSreIzx b s
  | .sreZp b => Sys2Proof.Machine.execSreZp b s
  | .sreAbs w => Sys2Proof.Machine.execSreAbs w s
  | .sreIzy b => Sys2Proof.Machine.execSreIzy b s
  | .sreZpx b => Sys2Proof.Machine.execSreZpx b s
  | .sreAby w => Sys2Proof.Machine.execSreAby w s
  | .sreAbx w => Sys2Proof.Machine.execSreAbx w s
  | .xaa d => Sys2Proof.Machine.execXaa d s
  | .decZp b => Sys2Proof.Machine.execDecZp b s
  | .decAbs w => Sys2Proof.Machine.execDecAbs w s
  | .decZpx b => Sys2Proof.Machine.execDecZpx b s
  | .decAbx w => Sys2Proof.Machine.execDecAbx w s
  | .dex => Sys2Proof.Machine.execDex s
  | .dey => Sys2Proof.Machine.execDey s
  | .incZp b => Sys2Proof.Machine.execIncZp b s
  | .incAbs w => Sys2Proof.Machine.execIncAbs w s
  | .incZpx b => Sys2Proof.Machine.execIncZpx b s
  | .incAbx w => Sys2Proof.Machine.execIncAbx w s
  | .inx => Sys2Proof.Machine.execInx s
  | .iny => Sys2Proof.Machine.execIny s
  | .brk => Sys2Proof.Machine.execBrk s
  | .jmpAbs w => Sys2Proof.Machine.execJmpAbs w s
  | .jmpInd w => Sys2Proof.Machine.execJmpInd w s
  | .jsr w => Sys2Proof.Machine.execJsr w s
  | .rti => Sys2Proof.Machine.execRti s
  | .rts => Sys2Proof.Machine.execRts s
  | .bcc r => Sys2Proof.Machine.execBcc r s
  | .bcs r => Sys2Proof.Machine.execBcs r s
  | .beq r => Sys2Proof.Machine.execBeq r s
  | .bmi r => Sys2Proof.Machine.execBmi r s
  | .bne r => Sys2Proof.Machine.execBne r s
  | .bpl r => Sys2Proof.Machine.execBpl r s
  | .bvc r => Sys2Proof.Machine.execBvc r s
  | .bvs r => Sys2Proof.Machine.execBvs r s
  | .nopZp04 b => Sys2Proof.Machine.execNopZp04 b s
  | .nopAbs w => Sys2Proof.Machine.execNopAbs w s
  | .nopZpx14 b => Sys2Proof.Machine.execNopZpx14 b s
  | .nop1A => Sys2Proof.Machine.execNop1A s
  | .nopAbx1C w => Sys2Proof.Machine.execNopAbx1C w s
  | .nopZpx34 b => Sys2Proof.Machine.execNopZpx34 b s
  | .nop3A => Sys2Proof.Machine.execNop3A s
  | .nopAbx3C w => Sys2Proof.Machine.execNopAbx3C w s
  | .nopZp44 b => Sys2Proof.Machine.execNopZp44 b s
  | .nopZpx54 b => Sys2Proof.Machine.execNopZpx54 b s
  | .nop5A => Sys2Proof.Machine.execNop5A s
  | .nopAbx5C w => Sys2Proof.Machine.execNopAbx5C w s
  | .nopZp64 b => Sys2Proof.Machine.execNopZp64 b s
  | .nopZpx74 b => Sys2Proof.Machine.execNopZpx74 b s
  | .nop7A => Sys2Proof.Machine.execNop7A s
  | .nopAbx7C w => Sys2Proof.Machine.execNopAbx7C w s
  | .nopImm80 d => Sys2Proof.Machine.execNopImm80 d s
  | .nopImm82 d => Sys2Proof.Machine.execNopImm82 d s
  | .nopImm89 d => Sys2Proof.Machine.execNopImm89 d s
  | .nopImmC2 d => Sys2Proof.Machine.execNopImmC2 d s
  | .nopZpxD4 b => Sys2Proof.Machine.execNopZpxD4 b s
  | .nopDA => Sys2Proof.Machine.execNopDA s
  | .nopAbxDC w => Sys2Proof.Machine.execNopAbxDC w s
  | .nopImmE2 d => Sys2Proof.Machine.execNopImmE2 d s
  | .nop => Sys2Proof.Machine.execNop s
  | .nopZpxF4 b => Sys2Proof.Machine.execNopZpxF4 b s
  | .nopFA => Sys2Proof.Machine.execNopFA s
  | .nopAbxFC w => Sys2Proof.Machine.execNopAbxFC w s
  | .clc => Sys2Proof.Machine.execClc s
  | .cld => Sys2Proof.Machine.execCld s
  | .cli => Sys2Proof.Machine.execCli s
  | .clv => Sys2Proof.Machine.execClv s
  | .sec => Sys2Proof.Machine.execSec s
  | .sed => Sys2Proof.Machine.execSed s
  | .sei => Sys2Proof.Machine.execSei s
  | .jam02 => Sys2Proof.Machine.execJam02 s
  | .jam12 => Sys2Proof.Machine.execJam12 s
  | .jam22 => Sys2Proof.Machine.execJam22 s
  | .jam32 => Sys2Proof.Machine.execJam32 s
  | .jam42 => Sys2Proof.Machine.execJam42 s
  | .jam52 => Sys2Proof.Machine.execJam52 s
  | .jam62 => Sys2Proof.Machine.execJam62 s
  | .jam72 => Sys2Proof.Machine.execJam72 s
  | .jam92 => Sys2Proof.Machine.execJam92 s
  | .jamB2 => Sys2Proof.Machine.execJamB2 s
  | .jamD2 => Sys2Proof.Machine.execJamD2 s
  | .jamF2 => Sys2Proof.Machine.execJamF2 s

end Sys2Proof.Machine
end

