-- ==== Sys2Proof/Decode.lean ====
section
/-! DEFINITION. The decoder, as the opcode map of `30_encoding.md` R77, and after it the encoder. -/

namespace Sys2Proof

open Machine

/-- What an opcode byte decides: the instruction, and how many operand bytes follow it (`30_encoding.md` R70, R71). -/
inductive Form where
  /-- format F1: the opcode alone -/
  | f1 (i : Instr)
  /-- format F2: one operand byte -/
  | f2 (k : Byte → Instr)
  /-- format F3: a 16-bit operand, low byte first -/
  | f3 (k : Word → Instr)

/-- Row 0x of the opcode map. -/
def opcodeRow0 : List Form :=
  [.f1 .brk, .f2 .oraIzx, .f1 .jam02, .f2 .sloIzx, .f2 .nopZp04, .f2 .oraZp, .f2 .aslZp, .f2 .sloZp, .f1 .php,
  .f2 .oraImm, .f1 .aslAcc, .f2 .ancImm0B, .f3 .nopAbs, .f3 .oraAbs, .f3 .aslAbs, .f3 .sloAbs]

/-- Row 1x of the opcode map. -/
def opcodeRow1 : List Form :=
  [.f2 .bpl, .f2 .oraIzy, .f1 .jam12, .f2 .sloIzy, .f2 .nopZpx14, .f2 .oraZpx, .f2 .aslZpx, .f2 .sloZpx, .f1 .clc,
  .f3 .oraAby, .f1 .nop1A, .f3 .sloAby, .f3 .nopAbx1C, .f3 .oraAbx, .f3 .aslAbx, .f3 .sloAbx]

/-- Row 2x of the opcode map. -/
def opcodeRow2 : List Form :=
  [.f3 .jsr, .f2 .andIzx, .f1 .jam22, .f2 .rlaIzx, .f2 .bitZp, .f2 .andZp, .f2 .rolZp, .f2 .rlaZp, .f1 .plp,
  .f2 .andImm, .f1 .rolAcc, .f2 .ancImm2B, .f3 .bitAbs, .f3 .andAbs, .f3 .rolAbs, .f3 .rlaAbs]

/-- Row 3x of the opcode map. -/
def opcodeRow3 : List Form :=
  [.f2 .bmi, .f2 .andIzy, .f1 .jam32, .f2 .rlaIzy, .f2 .nopZpx34, .f2 .andZpx, .f2 .rolZpx, .f2 .rlaZpx, .f1 .sec,
  .f3 .andAby, .f1 .nop3A, .f3 .rlaAby, .f3 .nopAbx3C, .f3 .andAbx, .f3 .rolAbx, .f3 .rlaAbx]

/-- Row 4x of the opcode map. -/
def opcodeRow4 : List Form :=
  [.f1 .rti, .f2 .eorIzx, .f1 .jam42, .f2 .sreIzx, .f2 .nopZp44, .f2 .eorZp, .f2 .lsrZp, .f2 .sreZp, .f1 .pha,
  .f2 .eorImm, .f1 .lsrAcc, .f2 .asr, .f3 .jmpAbs, .f3 .eorAbs, .f3 .lsrAbs, .f3 .sreAbs]

/-- Row 5x of the opcode map. -/
def opcodeRow5 : List Form :=
  [.f2 .bvc, .f2 .eorIzy, .f1 .jam52, .f2 .sreIzy, .f2 .nopZpx54, .f2 .eorZpx, .f2 .lsrZpx, .f2 .sreZpx, .f1 .cli,
  .f3 .eorAby, .f1 .nop5A, .f3 .sreAby, .f3 .nopAbx5C, .f3 .eorAbx, .f3 .lsrAbx, .f3 .sreAbx]

/-- Row 6x of the opcode map. -/
def opcodeRow6 : List Form :=
  [.f1 .rts, .f2 .adcIzx, .f1 .jam62, .f2 .rraIzx, .f2 .nopZp64, .f2 .adcZp, .f2 .rorZp, .f2 .rraZp, .f1 .pla,
  .f2 .adcImm, .f1 .rorAcc, .f2 .arr, .f3 .jmpInd, .f3 .adcAbs, .f3 .rorAbs, .f3 .rraAbs]

/-- Row 7x of the opcode map. -/
def opcodeRow7 : List Form :=
  [.f2 .bvs, .f2 .adcIzy, .f1 .jam72, .f2 .rraIzy, .f2 .nopZpx74, .f2 .adcZpx, .f2 .rorZpx, .f2 .rraZpx, .f1 .sei,
  .f3 .adcAby, .f1 .nop7A, .f3 .rraAby, .f3 .nopAbx7C, .f3 .adcAbx, .f3 .rorAbx, .f3 .rraAbx]

/-- Row 8x of the opcode map. -/
def opcodeRow8 : List Form :=
  [.f2 .nopImm80, .f2 .staIzx, .f2 .nopImm82, .f2 .saxIzx, .f2 .styZp, .f2 .staZp, .f2 .stxZp, .f2 .saxZp, .f1 .dey,
  .f2 .nopImm89, .f1 .txa, .f2 .xaa, .f3 .styAbs, .f3 .staAbs, .f3 .stxAbs, .f3 .saxAbs]

/-- Row 9x of the opcode map. -/
def opcodeRow9 : List Form :=
  [.f2 .bcc, .f2 .staIzy, .f1 .jam92, .f2 .shaIzy, .f2 .styZpx, .f2 .staZpx, .f2 .stxZpy, .f2 .saxZpy, .f1 .tya,
  .f3 .staAby, .f1 .txs, .f3 .shs, .f3 .shy, .f3 .staAbx, .f3 .shx, .f3 .shaAby]

/-- Row Ax of the opcode map. -/
def opcodeRowA : List Form :=
  [.f2 .ldyImm, .f2 .ldaIzx, .f2 .ldxImm, .f2 .laxIzx, .f2 .ldyZp, .f2 .ldaZp, .f2 .ldxZp, .f2 .laxZp, .f1 .tay,
  .f2 .ldaImm, .f1 .tax, .f2 .laxImm, .f3 .ldyAbs, .f3 .ldaAbs, .f3 .ldxAbs, .f3 .laxAbs]

/-- Row Bx of the opcode map. -/
def opcodeRowB : List Form :=
  [.f2 .bcs, .f2 .ldaIzy, .f1 .jamB2, .f2 .laxIzy, .f2 .ldyZpx, .f2 .ldaZpx, .f2 .ldxZpy, .f2 .laxZpy, .f1 .clv,
  .f3 .ldaAby, .f1 .tsx, .f3 .las, .f3 .ldyAbx, .f3 .ldaAbx, .f3 .ldxAby, .f3 .laxAby]

/-- Row Cx of the opcode map. -/
def opcodeRowC : List Form :=
  [.f2 .cpyImm, .f2 .cmpIzx, .f2 .nopImmC2, .f2 .dcpIzx, .f2 .cpyZp, .f2 .cmpZp, .f2 .decZp, .f2 .dcpZp, .f1 .iny,
  .f2 .cmpImm, .f1 .dex, .f2 .sbx, .f3 .cpyAbs, .f3 .cmpAbs, .f3 .decAbs, .f3 .dcpAbs]

/-- Row Dx of the opcode map. -/
def opcodeRowD : List Form :=
  [.f2 .bne, .f2 .cmpIzy, .f1 .jamD2, .f2 .dcpIzy, .f2 .nopZpxD4, .f2 .cmpZpx, .f2 .decZpx, .f2 .dcpZpx, .f1 .cld,
  .f3 .cmpAby, .f1 .nopDA, .f3 .dcpAby, .f3 .nopAbxDC, .f3 .cmpAbx, .f3 .decAbx, .f3 .dcpAbx]

/-- Row Ex of the opcode map. -/
def opcodeRowE : List Form :=
  [.f2 .cpxImm, .f2 .sbcIzx, .f2 .nopImmE2, .f2 .iscIzx, .f2 .cpxZp, .f2 .sbcZp, .f2 .incZp, .f2 .iscZp, .f1 .inx,
  .f2 .sbcImm, .f1 .nop, .f2 .sbcImmEB, .f3 .cpxAbs, .f3 .sbcAbs, .f3 .incAbs, .f3 .iscAbs]

/-- Row Fx of the opcode map. -/
def opcodeRowF : List Form :=
  [.f2 .beq, .f2 .sbcIzy, .f1 .jamF2, .f2 .iscIzy, .f2 .nopZpxF4, .f2 .sbcZpx, .f2 .incZpx, .f2 .iscZpx, .f1 .sed,
  .f3 .sbcAby, .f1 .nopFA, .f3 .iscAby, .f3 .nopAbxFC, .f3 .sbcAbx, .f3 .incAbx, .f3 .iscAbx]

/-- The opcode map, opcodes $00 to $FF in order (`30_encoding.md` R77). -/
def opcodeMap : List Form :=
  opcodeRow0 ++ opcodeRow1 ++ opcodeRow2 ++ opcodeRow3 ++ opcodeRow4 ++ opcodeRow5 ++ opcodeRow6 ++ opcodeRow7 ++
  opcodeRow8 ++ opcodeRow9 ++ opcodeRowA ++ opcodeRowB ++ opcodeRowC ++ opcodeRowD ++ opcodeRowE ++ opcodeRowF

/-- All 256 opcode values are assigned (`30_encoding.md` R74, R79). -/
theorem opcodeMap_length : opcodeMap.length = 256 := by
  simp only [opcodeMap, List.length_append]
  rfl

/-- The form an opcode byte selects. -/
def opcodeForm (op : Byte) : Form := opcodeMap[op.toNat]'(by rw [opcodeMap_length]; exact op.isLt)

/-- Why bytes do not decode. No opcode is unassigned (R79), so only missing bytes are rejected. -/
inductive DecodeError where
  /-- there is no byte at all -/
  | noOpcode
  /-- the opcode needs more operand bytes than follow it -/
  | missingOperand (opcode : Byte)
deriving DecidableEq, Repr

/-- Decoding: the instruction at the front of the bytes, and the bytes after it (`30_encoding.md` R70, R73, R75). -/
def decode : List Byte → Except DecodeError (Instr × List Byte)
  | [] => .error .noOpcode
  | op :: rest =>
    match opcodeForm op, rest with
    | .f1 i, rest => .ok (i, rest)
    | .f2 k, b1 :: rest => .ok (k b1, rest)
    | .f3 k, b1 :: b2 :: rest => .ok (k (word b2 b1), rest)
    | .f2 _, [] => .error (.missingOperand op)
    | .f3 _, [] => .error (.missingOperand op)
    | .f3 _, [_] => .error (.missingOperand op)

/-! ### The encoder -/

/-- The opcode byte of an instruction (the encoding tables of `41_load_store.md` to `49_jam_nop.md`). -/
def Instr.opcode : Instr → Byte
  | .las _ => 0xBB#8
  | .laxIzx _ => 0xA3#8
  | .laxZp _ => 0xA7#8
  | .laxImm _ => 0xAB#8
  | .laxAbs _ => 0xAF#8
  | .laxIzy _ => 0xB3#8
  | .laxZpy _ => 0xB7#8
  | .laxAby _ => 0xBF#8
  | .ldaIzx _ => 0xA1#8
  | .ldaZp _ => 0xA5#8
  | .ldaImm _ => 0xA9#8
  | .ldaAbs _ => 0xAD#8
  | .ldaIzy _ => 0xB1#8
  | .ldaZpx _ => 0xB5#8
  | .ldaAby _ => 0xB9#8
  | .ldaAbx _ => 0xBD#8
  | .ldxImm _ => 0xA2#8
  | .ldxZp _ => 0xA6#8
  | .ldxAbs _ => 0xAE#8
  | .ldxZpy _ => 0xB6#8
  | .ldxAby _ => 0xBE#8
  | .ldyImm _ => 0xA0#8
  | .ldyZp _ => 0xA4#8
  | .ldyAbs _ => 0xAC#8
  | .ldyZpx _ => 0xB4#8
  | .ldyAbx _ => 0xBC#8
  | .saxIzx _ => 0x83#8
  | .saxZp _ => 0x87#8
  | .saxAbs _ => 0x8F#8
  | .saxZpy _ => 0x97#8
  | .shaIzy _ => 0x93#8
  | .shaAby _ => 0x9F#8
  | .shx _ => 0x9E#8
  | .shy _ => 0x9C#8
  | .staIzx _ => 0x81#8
  | .staZp _ => 0x85#8
  | .staAbs _ => 0x8D#8
  | .staIzy _ => 0x91#8
  | .staZpx _ => 0x95#8
  | .staAby _ => 0x99#8
  | .staAbx _ => 0x9D#8
  | .stxZp _ => 0x86#8
  | .stxAbs _ => 0x8E#8
  | .stxZpy _ => 0x96#8
  | .styZp _ => 0x84#8
  | .styAbs _ => 0x8C#8
  | .styZpx _ => 0x94#8
  | .shs _ => 0x9B#8
  | .tax => 0xAA#8
  | .tay => 0xA8#8
  | .tsx => 0xBA#8
  | .txa => 0x8A#8
  | .txs => 0x9A#8
  | .tya => 0x98#8
  | .pha => 0x48#8
  | .php => 0x08#8
  | .pla => 0x68#8
  | .plp => 0x28#8
  | .aslZp _ => 0x06#8
  | .aslAcc => 0x0A#8
  | .aslAbs _ => 0x0E#8
  | .aslZpx _ => 0x16#8
  | .aslAbx _ => 0x1E#8
  | .lsrZp _ => 0x46#8
  | .lsrAcc => 0x4A#8
  | .lsrAbs _ => 0x4E#8
  | .lsrZpx _ => 0x56#8
  | .lsrAbx _ => 0x5E#8
  | .rolZp _ => 0x26#8
  | .rolAcc => 0x2A#8
  | .rolAbs _ => 0x2E#8
  | .rolZpx _ => 0x36#8
  | .rolAbx _ => 0x3E#8
  | .rorZp _ => 0x66#8
  | .rorAcc => 0x6A#8
  | .rorAbs _ => 0x6E#8
  | .rorZpx _ => 0x76#8
  | .rorAbx _ => 0x7E#8
  | .andIzx _ => 0x21#8
  | .andZp _ => 0x25#8
  | .andImm _ => 0x29#8
  | .andAbs _ => 0x2D#8
  | .andIzy _ => 0x31#8
  | .andZpx _ => 0x35#8
  | .andAby _ => 0x39#8
  | .andAbx _ => 0x3D#8
  | .bitZp _ => 0x24#8
  | .bitAbs _ => 0x2C#8
  | .eorIzx _ => 0x41#8
  | .eorZp _ => 0x45#8
  | .eorImm _ => 0x49#8
  | .eorAbs _ => 0x4D#8
  | .eorIzy _ => 0x51#8
  | .eorZpx _ => 0x55#8
  | .eorAby _ => 0x59#8
  | .eorAbx _ => 0x5D#8
  | .oraIzx _ => 0x01#8
  | .oraZp _ => 0x05#8
  | .oraImm _ => 0x09#8
  | .oraAbs _ => 0x0D#8
  | .oraIzy _ => 0x11#8
  | .oraZpx _ => 0x15#8
  | .oraAby _ => 0x19#8
  | .oraAbx _ => 0x1D#8
  | .adcIzx _ => 0x61#8
  | .adcZp _ => 0x65#8
  | .adcImm _ => 0x69#8
  | .adcAbs _ => 0x6D#8
  | .adcIzy _ => 0x71#8
  | .adcZpx _ => 0x75#8
  | .adcAby _ => 0x79#8
  | .adcAbx _ => 0x7D#8
  | .cmpIzx _ => 0xC1#8
  | .cmpZp _ => 0xC5#8
  | .cmpImm _ => 0xC9#8
  | .cmpAbs _ => 0xCD#8
  | .cmpIzy _ => 0xD1#8
  | .cmpZpx _ => 0xD5#8
  | .cmpAby _ => 0xD9#8
  | .cmpAbx _ => 0xDD#8
  | .cpxImm _ => 0xE0#8
  | .cpxZp _ => 0xE4#8
  | .cpxAbs _ => 0xEC#8
  | .cpyImm _ => 0xC0#8
  | .cpyZp _ => 0xC4#8
  | .cpyAbs _ => 0xCC#8
  | .sbcIzx _ => 0xE1#8
  | .sbcZp _ => 0xE5#8
  | .sbcImm _ => 0xE9#8
  | .sbcImmEB _ => 0xEB#8
  | .sbcAbs _ => 0xED#8
  | .sbcIzy _ => 0xF1#8
  | .sbcZpx _ => 0xF5#8
  | .sbcAby _ => 0xF9#8
  | .sbcAbx _ => 0xFD#8
  | .ancImm0B _ => 0x0B#8
  | .ancImm2B _ => 0x2B#8
  | .arr _ => 0x6B#8
  | .asr _ => 0x4B#8
  | .dcpIzx _ => 0xC3#8
  | .dcpZp _ => 0xC7#8
  | .dcpAbs _ => 0xCF#8
  | .dcpIzy _ => 0xD3#8
  | .dcpZpx _ => 0xD7#8
  | .dcpAby _ => 0xDB#8
  | .dcpAbx _ => 0xDF#8
  | .iscIzx _ => 0xE3#8
  | .iscZp _ => 0xE7#8
  | .iscAbs _ => 0xEF#8
  | .iscIzy _ => 0xF3#8
  | .iscZpx _ => 0xF7#8
  | .iscAby _ => 0xFB#8
  | .iscAbx _ => 0xFF#8
  | .rlaIzx _ => 0x23#8
  | .rlaZp _ => 0x27#8
  | .rlaAbs _ => 0x2F#8
  | .rlaIzy _ => 0x33#8
  | .rlaZpx _ => 0x37#8
  | .rlaAby _ => 0x3B#8
  | .rlaAbx _ => 0x3F#8
  | .rraIzx _ => 0x63#8
  | .rraZp _ => 0x67#8
  | .rraAbs _ => 0x6F#8
  | .rraIzy _ => 0x73#8
  | .rraZpx _ => 0x77#8
  | .rraAby _ => 0x7B#8
  | .rraAbx _ => 0x7F#8
  | .sbx _ => 0xCB#8
  | .sloIzx _ => 0x03#8
  | .sloZp _ => 0x07#8
  | .sloAbs _ => 0x0F#8
  | .sloIzy _ => 0x13#8
  | .sloZpx _ => 0x17#8
  | .sloAby _ => 0x1B#8
  | .sloAbx _ => 0x1F#8
  | .sreIzx _ => 0x43#8
  | .sreZp _ => 0x47#8
  | .sreAbs _ => 0x4F#8
  | .sreIzy _ => 0x53#8
  | .sreZpx _ => 0x57#8
  | .sreAby _ => 0x5B#8
  | .sreAbx _ => 0x5F#8
  | .xaa _ => 0x8B#8
  | .decZp _ => 0xC6#8
  | .decAbs _ => 0xCE#8
  | .decZpx _ => 0xD6#8
  | .decAbx _ => 0xDE#8
  | .dex => 0xCA#8
  | .dey => 0x88#8
  | .incZp _ => 0xE6#8
  | .incAbs _ => 0xEE#8
  | .incZpx _ => 0xF6#8
  | .incAbx _ => 0xFE#8
  | .inx => 0xE8#8
  | .iny => 0xC8#8
  | .brk => 0x00#8
  | .jmpAbs _ => 0x4C#8
  | .jmpInd _ => 0x6C#8
  | .jsr _ => 0x20#8
  | .rti => 0x40#8
  | .rts => 0x60#8
  | .bcc _ => 0x90#8
  | .bcs _ => 0xB0#8
  | .beq _ => 0xF0#8
  | .bmi _ => 0x30#8
  | .bne _ => 0xD0#8
  | .bpl _ => 0x10#8
  | .bvc _ => 0x50#8
  | .bvs _ => 0x70#8
  | .nopZp04 _ => 0x04#8
  | .nopAbs _ => 0x0C#8
  | .nopZpx14 _ => 0x14#8
  | .nop1A => 0x1A#8
  | .nopAbx1C _ => 0x1C#8
  | .nopZpx34 _ => 0x34#8
  | .nop3A => 0x3A#8
  | .nopAbx3C _ => 0x3C#8
  | .nopZp44 _ => 0x44#8
  | .nopZpx54 _ => 0x54#8
  | .nop5A => 0x5A#8
  | .nopAbx5C _ => 0x5C#8
  | .nopZp64 _ => 0x64#8
  | .nopZpx74 _ => 0x74#8
  | .nop7A => 0x7A#8
  | .nopAbx7C _ => 0x7C#8
  | .nopImm80 _ => 0x80#8
  | .nopImm82 _ => 0x82#8
  | .nopImm89 _ => 0x89#8
  | .nopImmC2 _ => 0xC2#8
  | .nopZpxD4 _ => 0xD4#8
  | .nopDA => 0xDA#8
  | .nopAbxDC _ => 0xDC#8
  | .nopImmE2 _ => 0xE2#8
  | .nop => 0xEA#8
  | .nopZpxF4 _ => 0xF4#8
  | .nopFA => 0xFA#8
  | .nopAbxFC _ => 0xFC#8
  | .clc => 0x18#8
  | .cld => 0xD8#8
  | .cli => 0x58#8
  | .clv => 0xB8#8
  | .sec => 0x38#8
  | .sed => 0xF8#8
  | .sei => 0x78#8
  | .jam02 => 0x02#8
  | .jam12 => 0x12#8
  | .jam22 => 0x22#8
  | .jam32 => 0x32#8
  | .jam42 => 0x42#8
  | .jam52 => 0x52#8
  | .jam62 => 0x62#8
  | .jam72 => 0x72#8
  | .jam92 => 0x92#8
  | .jamB2 => 0xB2#8
  | .jamD2 => 0xD2#8
  | .jamF2 => 0xF2#8

/-- The operand bytes, low byte first (`30_encoding.md` R70, R75). -/
def operandBytes : Operand → List Byte
  | .implied => []
  | .accumulator => []
  | .immediate d => [d]
  | .memory (.zp b) => [b]
  | .memory (.zpx b) => [b]
  | .memory (.zpy b) => [b]
  | .memory (.abs w) => [loByte w, hiByte w]
  | .memory (.abx w) => [loByte w, hiByte w]
  | .memory (.aby w) => [loByte w, hiByte w]
  | .memory (.izx b) => [b]
  | .memory (.izy b) => [b]
  | .indirect w => [loByte w, hiByte w]
  | .relative r => [r]

/-- The bytes of an instruction, in ascending addresses (`30_encoding.md` R70). -/
def encode (i : Instr) : List Byte := i.opcode :: operandBytes i.operand

/-- The displacement byte an assembler writes for a branch at `addr` to `target`, if the target is in reach
(`30_encoding.md` R82). -/
def branchOffset (addr target : Word) : Option Byte :=
  let d := (target - (addr + 2)).toInt
  if -128 ≤ d ∧ d ≤ 127 then some (BitVec.ofInt 8 d) else none

/-! ### The table's words -/

/-- The three bytes that hold the bits of a table word: bit 0 is the least significant bit of the first byte, every bit
from `nbits` up is 0. -/
def tableBytes (nbits w : Nat) : List Byte :=
  let v := w % 2 ^ nbits
  [BitVec.ofNat 8 v, BitVec.ofNat 8 (v / 256), BitVec.ofNat 8 (v / 65536)]

/-- The instruction the decoder reads from a table word. -/
def decodeTableWord (nbits w : Nat) : Option Instr :=
  match decode (tableBytes nbits w) with
  | .ok r => some r.1
  | .error _ => none

end Sys2Proof
end

