-- ==== Sys2Proof/Machine/Fetch.lean ====
section
/-! DEFINITION. Fetching an instruction (`30_encoding.md` R73), and placing one where it is fetched. -/

namespace Sys2Proof.Machine

/-- The instruction at PC (`30_encoding.md` R71, R73): the opcode is read at PC, then as many operand bytes as it needs,
the addresses wrapping modulo 65536. PC itself stays at the opcode. -/
def State.fetch (s : State) : Instr × State :=
  let op := s.busRead s.pc
  match opcodeForm op.1 with
  | .f1 i => (i, op.2)
  | .f2 k =>
    let b1 := op.2.busRead (s.pc + 1)
    (k b1.1, b1.2)
  | .f3 k =>
    let w := op.2.readPair (s.pc + 1) (s.pc + 2)
    (k w.1, w.2)

/-- A memory map in which an address reads as what is stored there: the map itself where it is RAM or ROM, else with that
one address made RAM. -/
def exposeAddress (addr : Word) (map : List Region) : List Region :=
  match kindAt map addr with
  | .ram => map
  | .rom => map
  | .device => { first := addr.toNat, last := addr.toNat, kind := .ram } :: map
  | .unmapped => { first := addr.toNat, last := addr.toNat, kind := .ram } :: map

/-- Placing a byte from outside the machine, so that it is what a fetch at that address reads. -/
def State.place (addr : Word) (v : Byte) (s : State) : State :=
  { s with mem := s.mem.write addr.toNat v, map := exposeAddress addr s.map }

/-- Placing bytes at ascending addresses. -/
def State.placeBytes : Word → List Byte → State → State
  | _, [], s => s
  | addr, v :: vs, s => State.placeBytes (addr + 1) vs (s.place addr v)

/-- No interrupt, reset or halt at the boundary now at hand, so that an instruction is fetched there. -/
def State.quieten (s : State) : State :=
  { s with
    halted := false
    nmiPending := false
    inputs :=
      match s.inputs with
      | [] => []
      | _ :: later => Inputs.idle :: later }

end Sys2Proof.Machine
end

