-- ==== Sys2Proof/Machine/Step.lean ====
section
/-! DEFINITION. One step of the machine (`60_exceptions.md` R313), and the state that runs a given instruction next. -/

namespace Sys2Proof.Machine

/-- One step: the boundary's tests, then, if nothing else happened there, one whole instruction (R313). -/
def step (s : State) : Host.Outcome State Fault Refusal :=
  match s.boundary with
  | .event t => .next t
  | .instruction t => exec t.fetch.1 t.fetch.2

/-- The state with a table word stored at PC, and nothing at this boundary that keeps it from being fetched (log 31). -/
def State.withFetchWord (s : State) (nbits w : Nat) : State :=
  (State.placeBytes s.pc (tableBytes nbits w) s).quieten

end Sys2Proof.Machine
end

