-- ==== Sys2Proof/WellFormed.lean ====
section
/-! DEFINITION. Which addressing modes each mnemonic has, and when an instruction is well-formed. Operand widths are in
the types, so the one check left is that the mnemonic exists in the mode (`10_state.md` R15: each mode exists only for
the instructions and the index register that list it). -/

namespace Sys2Proof

/-- The mode of an operand (`30_encoding.md` R76). -/
def Operand.mode : Operand → Mode
  | .implied => .imp
  | .accumulator => .acc
  | .immediate _ => .imm
  | .memory (.zp _) => .zp
  | .memory (.zpx _) => .zpx
  | .memory (.zpy _) => .zpy
  | .memory (.abs _) => .abs
  | .memory (.abx _) => .abx
  | .memory (.aby _) => .aby
  | .memory (.izx _) => .izx
  | .memory (.izy _) => .izy
  | .indirect _ => .ind
  | .relative _ => .rel

/-- The modes of a mnemonic: the encoding tables of `41_load_store.md` to `49_jam_nop.md`. -/
def Mnemonic.modes : Mnemonic → List Mode
  | .las | .shx | .shs => [.aby]
  | .lax => [.imm, .zp, .zpy, .abs, .aby, .izx, .izy]
  | .lda | .and | .eor | .ora | .adc | .cmp | .sbc => [.imm, .zp, .zpx, .abs, .abx, .aby, .izx, .izy]
  | .ldx => [.imm, .zp, .zpy, .abs, .aby]
  | .ldy => [.imm, .zp, .zpx, .abs, .abx]
  | .sax => [.zp, .zpy, .abs, .izx]
  | .sha => [.aby, .izy]
  | .shy => [.abx]
  | .sta | .dcp | .isc | .rla | .rra | .slo | .sre => [.zp, .zpx, .abs, .abx, .aby, .izx, .izy]
  | .stx => [.zp, .zpy, .abs]
  | .sty => [.zp, .zpx, .abs]
  | .tax | .tay | .tsx | .txa | .txs | .tya | .pha | .php | .pla | .plp | .dex | .dey | .inx | .iny | .brk | .rti
  | .rts | .clc | .cld | .cli | .clv | .sec | .sed | .sei | .jam => [.imp]
  | .asl | .lsr | .rol | .ror => [.acc, .zp, .zpx, .abs, .abx]
  | .bit => [.zp, .abs]
  | .cpx | .cpy => [.imm, .zp, .abs]
  | .anc | .arr | .asr | .sbx | .xaa => [.imm]
  | .dec | .inc => [.zp, .zpx, .abs, .abx]
  | .jmp => [.abs, .ind]
  | .jsr => [.abs]
  | .bcc | .bcs | .beq | .bmi | .bne | .bpl | .bvc | .bvs => [.rel]
  | .nop => [.imp, .imm, .zp, .zpx, .abs, .abx]

/-- A mnemonic with an operand is well-formed when the mnemonic has the operand's mode (R15, R76). -/
def formWf (m : Mnemonic) (o : Operand) : Bool := m.modes.contains o.mode

/-- An instruction is well-formed when its mnemonic has its operand's mode. -/
def Instr.wf (i : Instr) : Bool := formWf i.mnemonic i.operand

/-- The mnemonics with no documented opcode (`00_scope.md` R2, `30_encoding.md` R80). -/
def undocumentedMnemonics : List Mnemonic :=
  [.las, .lax, .sax, .sha, .shx, .shy, .shs, .anc, .arr, .asr, .dcp, .isc, .rla, .rra, .sbx, .slo, .sre, .xaa, .jam]

/-- The documented mnemonics' undocumented rows: every NOP but $EA, and the SBC $EB (R2, R80). -/
def extraUndocumented : Instr → Bool
  | .sbcImmEB _ => true
  | i => i.mnemonic == .nop && i != .nop

/-- Whether the source documents the opcode (R2, R80). -/
def Instr.documented (i : Instr) : Bool := !undocumentedMnemonics.contains i.mnemonic && !extraUndocumented i

end Sys2Proof
end

