-- ==== Sys2Proof/Safety.lean ====
section
/-! DEFINITION. What counts as a well-formed machine and a safe run, in the terms that statements use. -/

namespace Sys2Proof.Machine

/-- A state is well-formed when its memory has its canonical form. -/
def State.wf (s : State) : Prop := s.mem.wf

/-- The core runs on from this state (`10_state.md` R22). -/
def State.running (s : State) : Prop := s.halted = false

/-- Nothing keeps an instruction from being fetched at this boundary (`60_exceptions.md` R313): no RESET, not halted,
no NMI pending or arriving, and no IRQ that is not masked. -/
def State.quiet (s : State) : Prop :=
  s.sample.reset = false ∧ s.halted = false ∧ s.nmiPending = false ∧ s.sample.nmi = false ∧
    (s.sample.irq = false ∨ s.p.i = true)

/-- An address that reads as what is stored there: plain RAM or ROM (`20_memory.md` R41). -/
def State.stored (s : State) (addr : Word) : Prop := kindAt s.map addr = .ram ∨ kindAt s.map addr = .rom

/-- Every address is plain RAM: D7's default for a bare model. -/
def State.bare (s : State) : Prop := ∀ addr, kindAt s.map addr = .ram

/-- What `20_memory.md` R49 asks of a usable system: writable memory in pages 0 and 1, defined bytes at the three
vectors. -/
def State.usable (s : State) : Prop :=
  (∀ addr : Word, addr.toNat < 0x0200 → kindAt s.map addr = .ram) ∧
    ∀ addr : Word, 0xFFFA ≤ addr.toNat → s.stored addr

/-- One step leads from the first state to the second. -/
def Steps (s t : State) : Prop := step s = .next t

/-- The states a run from `s` passes through. -/
inductive Reaches (s : State) : State → Prop where
  /-- the run begins at `s` -/
  | start : Reaches s s
  /-- one step more -/
  | later {t u : State} : Reaches s t → step t = .next u → Reaches s u

/-- A run is safe when every state it passes through is well-formed and takes a next step: no fault, no refusal
(`60_exceptions.md` R310). -/
def State.safe (s : State) : Prop := ∀ t, Reaches s t → t.wf ∧ ∃ u, step t = .next u

/-- The instruction at PC is one the source documents (D1 lets a reader ask for this; log 10). -/
def State.documentedNext (s : State) : Prop := s.fetch.1.documented = true

end Sys2Proof.Machine
end

