-- ==== Sys2Proof/Certificates/Slice0/Obligations.lean ====
section
/-! DEFINITION. The statements for the provers, from the numbered rules of the spec, and the few words they are written
in (namespace Claims). No statement rests on the value of a free value. -/

namespace Sys2Proof.Claims

open Sys2Proof.Machine

/-- `s`, but for the model's own count of free values and device events, which are those of `t`: `s` after the reads
that led to `t`. -/
def afterRead (s t : State) : State := { s with draws := t.draws, events := t.events }

/-- `s` at the end of the instruction `i`, which does not write PC: PC past its bytes, and the cycles it took. -/
def ends (i : Instr) (cycles : Nat) (s : State) : State :=
  { s with pc := s.pc + BitVec.ofNat 16 (encode i).length, cycles := s.cycles + cycles }

/-- N and Z from a byte, every other flag as it was. -/
def nz (p : Status) (v : Byte) : Status := { p with n := v.getLsbD 7, z := decide (v = 0x00#8) }

/-- N, Z and C as a comparison of `reg` with `m` leaves them, the others as they were. -/
def compared (p : Status) (reg m : Byte) : Status :=
  { p with n := (reg - m).getLsbD 7, z := decide (reg = m), c := decide (m.toNat ≤ reg.toNat) }

/-- N, V, Z and C from an arithmetic result, D and I as they were. -/
def arithFlags (p : Status) (r : ArithResult) : Status := { p with n := r.n, v := r.v, z := r.z, c := r.c }

/-- The address `$0100 + S` with S taken `k` lower, modulo 256. -/
def stackSlot (s : State) (k : Nat) : Word := 0x0100#16 + (s.sp - BitVec.ofNat 8 k).setWidth 16

/-- The packed BCD byte of a number below 100 (`44_arith.md` R204). -/
def bcd (n : Nat) : Byte := BitVec.ofNat 8 (n / 10 * 16 + n % 10)

/-- What a shift or rotate computes from the byte and the carry: the result and the new carry (R181 to R184). -/
def shifted (m : Mnemonic) (b : Byte) (c : Bool) : Byte × Bool :=
  match m with
  | .asl => (BitVec.ofNat 8 (2 * b.toNat), decide (128 ≤ b.toNat))
  | .lsr => (BitVec.ofNat 8 (b.toNat / 2), decide (b.toNat % 2 = 1))
  | .rol => (BitVec.ofNat 8 (2 * b.toNat + c.toNat), decide (128 ≤ b.toNat))
  | _ => (BitVec.ofNat 8 (b.toNat / 2 + 128 * c.toNat), decide (b.toNat % 2 = 1))

/-- The state after the three pushes of an interrupt sequence, with I set and S three lower: the return address, high
byte first, then P with the B position `b`. -/
def entryPushed (ret : Word) (b : Bool) (s : State) : State :=
  { ((s.busWrite (stackSlot s 0) (ret.extractLsb' 8 8)).busWrite (stackSlot s 1) (ret.extractLsb' 0 8)).busWrite
      (stackSlot s 2) (s.p.toByte b) with
    sp := s.sp - 3
    p := { s.p with i := true } }

/-- The state after a whole interrupt sequence: the pushes, PC from the vector, 7 cycles. -/
def entered (ret : Word) (b : Bool) (vector : Word) (s : State) : State :=
  let t := entryPushed ret b s
  let v := t.readPair vector (vector + 1)
  { afterRead t v.2 with pc := v.1, cycles := s.cycles + 7 }

/-- The stack bytes an interrupt sequence writes are plain RAM. -/
def stackRam (s : State) : Prop :=
  kindAt s.map (stackSlot s 0) = .ram ∧ kindAt s.map (stackSlot s 1) = .ram ∧ kindAt s.map (stackSlot s 2) = .ram

/-- The mnemonics whose memory operand is written: the stores and the read/modify/write instructions. -/
def storing : List Mnemonic :=
  [.sax, .sha, .shx, .shy, .sta, .stx, .sty, .shs, .asl, .lsr, .rol, .ror, .dcp, .isc, .rla, .rra, .slo, .sre, .dec, .inc]

/-- Every address an instruction stores to: the effective address of a store or read/modify/write, the stack slots of
a push, and nothing else. -/
def storedAddresses (i : Instr) (s : State) : List Word :=
  if storing.contains i.mnemonic then
    match i.operand with
    | .memory m => [(locate m s).ea]
    | _ => []
  else if i.mnemonic = .pha ∨ i.mnemonic = .php then [stackSlot s 0]
  else if i.mnemonic = .jsr then [stackSlot s 0, stackSlot s 1]
  else if i.mnemonic = .brk then [stackSlot s 0, stackSlot s 1, stackSlot s 2]
  else []

/-- The instructions that write A (`10_state.md` R11); the shifts do in accumulator mode. -/
def writesA (i : Instr) : Bool :=
  [Mnemonic.lda, .pla, .txa, .tya, .adc, .sbc, .and, .ora, .eor, .lax, .las, .anc, .arr, .asr, .isc, .rla, .rra, .slo, .sre,
    .xaa].contains i.mnemonic || decide (i.operand = .accumulator)

/-- The instructions that write X (`10_state.md` R12). -/
def writesX (i : Instr) : Bool := [Mnemonic.ldx, .tax, .tsx, .inx, .dex, .lax, .las, .sbx].contains i.mnemonic

/-- The instructions that write Y (`10_state.md` R13). -/
def writesY (i : Instr) : Bool := [Mnemonic.ldy, .tay, .iny, .dey].contains i.mnemonic

/-- The instructions that write S (`10_state.md` R14). -/
def writesS (i : Instr) : Bool :=
  [Mnemonic.pha, .php, .pla, .plp, .jsr, .rts, .brk, .rti, .txs, .las, .shs].contains i.mnemonic

/-- An entry of a flags table (`00_scope.md` section 6.4). -/
inductive FlagEntry where
  /-- `-`: not affected -/
  | keeps
  /-- `0`: always reset -/
  | zero
  /-- `1`: always set -/
  | one
  /-- a tick: set from the result -/
  | result
deriving DecidableEq, Repr

/-- What an entry says of a flag before and after. -/
def FlagEntry.holds (e : FlagEntry) (before after : Bool) : Prop :=
  match e with
  | .keeps => after = before
  | .zero => after = false
  | .one => after = true
  | .result => True

/-- A row of the flags tables: N V D I Z C. -/
structure FlagRow where
  /-- N -/
  n : FlagEntry
  /-- V -/
  v : FlagEntry
  /-- D -/
  d : FlagEntry
  /-- I -/
  i : FlagEntry
  /-- Z -/
  z : FlagEntry
  /-- C -/
  c : FlagEntry
deriving DecidableEq, Repr

/-- The 75 flags tables, collected (`95_test_vectors.md` section 1.2). -/
def flagRow : Mnemonic → FlagRow
  | .adc | .sbc | .arr | .isc | .rra => ⟨.result, .result, .keeps, .keeps, .result, .result⟩
  | .anc | .cmp | .cpx | .cpy | .asl | .rol | .ror | .dcp | .rla | .sbx | .slo | .sre =>
    ⟨.result, .keeps, .keeps, .keeps, .result, .result⟩
  | .asr | .lsr => ⟨.zero, .keeps, .keeps, .keeps, .result, .result⟩
  | .and | .eor | .ora | .dec | .dex | .dey | .inc | .inx | .iny | .las | .lax | .lda | .ldx | .ldy | .pla | .tax | .tay
  | .tsx | .txa | .tya | .xaa => ⟨.result, .keeps, .keeps, .keeps, .result, .keeps⟩
  | .bit => ⟨.result, .result, .keeps, .keeps, .result, .keeps⟩
  | .brk | .sei => ⟨.keeps, .keeps, .keeps, .one, .keeps, .keeps⟩
  | .clc => ⟨.keeps, .keeps, .keeps, .keeps, .keeps, .zero⟩
  | .sec => ⟨.keeps, .keeps, .keeps, .keeps, .keeps, .one⟩
  | .cld => ⟨.keeps, .keeps, .zero, .keeps, .keeps, .keeps⟩
  | .sed => ⟨.keeps, .keeps, .one, .keeps, .keeps, .keeps⟩
  | .cli => ⟨.keeps, .keeps, .keeps, .zero, .keeps, .keeps⟩
  | .clv => ⟨.keeps, .zero, .keeps, .keeps, .keeps, .keeps⟩
  | .plp | .rti => ⟨.result, .result, .result, .result, .result, .result⟩
  | .bcc | .bcs | .beq | .bmi | .bne | .bpl | .bvc | .bvs | .jam | .jmp | .jsr | .nop | .pha | .php | .rts | .sax | .sha
  | .shs | .shx | .shy | .sta | .stx | .sty | .txs => ⟨.keeps, .keeps, .keeps, .keeps, .keeps, .keeps⟩

/-- The instructions that write PC themselves, and JAM, which leaves it (R266, R300). -/
def transfers : List Mnemonic :=
  [.brk, .jmp, .jsr, .rti, .rts, .bcc, .bcs, .beq, .bmi, .bne, .bpl, .bvc, .bvs, .jam]

/-- A form with its operand bytes zero. -/
def formInstr : Form → Instr
  | .f1 i => i
  | .f2 k => k 0x00#8
  | .f3 k => k 0x0000#16

/-- The 256 instructions of the opcode map, with operands of zero. -/
def allInstrs : List Instr := opcodeMap.map formInstr

/-- How many opcodes have a property. -/
def countOpcodes (q : Instr → Bool) : Nat := (allInstrs.filter q).length

/-- `s` with IRQ_INPUT not asserted at the boundary now at hand. -/
def withoutIrq (s : State) : State :=
  { s with
    inputs :=
      match s.inputs with
      | [] => []
      | now :: later => { now with irq := false } :: later }

end Sys2Proof.Claims

open Sys2Proof Sys2Proof.Machine Sys2Proof.Claims

/-! ### Encoding -/

/-- Decoding the encoding of any instruction gives it back, with every operand at every value (R70, R75, R77). -/
def Obligations.DecodeReadsBackEveryEncoding : Prop :=
  ∀ (i : Instr) (rest : List Byte), decode (encode i ++ rest) = .ok (i, rest)

/-- Whatever decodes, its bytes are the encoding of what it decodes to: no two byte strings mean one instruction (R70,
R75, R77). -/
def Obligations.EncodeWritesBackEveryDecoding : Prop :=
  ∀ (bytes rest : List Byte) (i : Instr), decode bytes = .ok (i, rest) → bytes = encode i ++ rest

/-- Every opcode byte decodes, whatever follows it, and it alone decides mnemonic, mode and length (R71, R79). That
undocumented opcodes are admitted is the model's choice, log 10. -/
def Obligations.OpcodeAloneDecidesTheForm : Prop :=
  ∀ op : Byte, ∃ (m : Mnemonic) (o : Mode) (n : Nat), n ≤ 3 ∧ ∀ b1 b2 : Byte, ∃ (i : Instr),
    decode [op, b1, b2] = .ok (i, [op, b1, b2].drop n) ∧ i.opcode = op ∧ i.mnemonic = m ∧ i.operand.mode = o ∧
      (encode i).length = n

/-- The counts of R74 over the opcode map, and those of R76 by mode (the spec marks them as counted from its tables).
-/
def Obligations.OpcodeCountsAgree : Prop :=
  allInstrs.length = 256 ∧ (allInstrs.map Instr.opcode) = (List.range 256).map (BitVec.ofNat 8) ∧
  (allInstrs.map Instr.mnemonic).dedup.length = 75 ∧
  ((allInstrs.filter Instr.documented).map Instr.mnemonic).dedup.length = 56 ∧
  ((allInstrs.map Instr.mnemonic).dedup.filter fun m =>
    allInstrs.all fun i => i.mnemonic != m || !i.documented).length = 19 ∧
  countOpcodes (fun i => i.documented) = 151 ∧ countOpcodes (fun i => !i.documented) = 105 ∧
  countOpcodes (fun i => (encode i).length == 1) = 47 ∧ countOpcodes (fun i => (encode i).length == 2) = 128 ∧
  countOpcodes (fun i => (encode i).length == 3) = 81 ∧
  countOpcodes (fun i => i.operand.mode == .imp && i.documented) = 25 ∧
  countOpcodes (fun i => i.mnemonic == .jam && i.operand.mode == .imp) = 12 ∧
  countOpcodes (fun i => i.mnemonic == .nop && i.operand.mode == .imp && !i.documented) = 6 ∧
  [Mode.imp, .acc, .imm, .zp, .zpx, .zpy, .abs, .abx, .aby, .izx, .izy, .ind, .rel].map
    (fun m => countOpcodes (fun i => i.operand.mode == m)) = [43, 4, 24, 32, 28, 4, 32, 28, 20, 16, 16, 1, 8]

/-- Words written out from the encoding tables decode to the instructions they stand for. -/
def Obligations.SampleWordsDecode : Prop :=
  decode [0xA9#8, 0x80#8] = .ok (.ldaImm 0x80#8, []) ∧ decode [0x9D#8, 0x34#8, 0x12#8] = .ok (.staAbx 0x1234#16, []) ∧
  decode [0x6A#8] = .ok (.rorAcc, []) ∧ decode [0x71#8, 0x20#8] = .ok (.adcIzy 0x20#8, []) ∧
  decode [0x6C#8, 0xFF#8, 0x30#8] = .ok (.jmpInd 0x30FF#16, []) ∧ decode [0xD0#8, 0xFA#8] = .ok (.bne 0xFA#8, []) ∧
  decode [0x9B#8, 0x00#8, 0x10#8] = .ok (.shs 0x1000#16, []) ∧ decode [0xEB#8, 0x40#8] = .ok (.sbcImmEB 0x40#8, []) ∧
  decode [0x12#8] = .ok (.jam12, []) ∧ decode [0xFC#8, 0x01#8, 0x02#8] = .ok (.nopAbxFC 0x0201#16, [])

/-- The displacement an assembler writes reaches its target, and there is one exactly for the targets within
-128..+127 of the address of the branch plus 2 (R82). The displacement's base and sign are the model's choice from the
spec's general knowledge, log 23. -/
def Obligations.BranchOffsetReachesTarget : Prop :=
  ∀ addr target : Word,
    (∀ r : Byte, branchOffset addr target = some r → branchTarget addr r = target) ∧
    ((branchOffset addr target).isSome = true ↔ ∃ r : Byte, branchTarget addr r = target)

/-! ### The step -/

/-- When nothing keeps an instruction from being fetched, and the bytes at PC are in RAM or ROM and decode to an
instruction, the step is that instruction executed with PC still at its opcode; the boundary's input sample is used
up. The model's choices: the step is one instruction, a fetch reads no byte more, and the inputs are a list of samples
(logs 9, 25, 32). -/
def Obligations.StepRunsTheDecodedInstruction : Prop :=
  ∀ (s : State) (n : Nat) (i : Instr), s.quiet →
    (∀ k < n, s.stored (s.pc + BitVec.ofNat 16 k)) →
    decode ((List.range n).map fun k => s.mem.read (s.pc + BitVec.ofNat 16 k).toNat) = .ok (i, []) →
    step s = exec i { s with inputs := s.inputs.tail }

/-- With I = 1 an asserted IRQ makes no difference to a step (R314). That a masked IRQ is not remembered is the
model's choice from the spec's general knowledge, log 32. -/
def Obligations.MaskedIrqIsNotSeen : Prop :=
  ∀ s : State, s.p.i = true → step s = step (withoutIrq s)

/-- A halted core changes nothing but the inputs used up and the latch an NMI edge sets, until RESET is asserted; and
only JAM, executed as an instruction, makes a core halt (R22, R300, R313). After reset no core is halted. That an NMI
edge sets the latch of a halted core, and that a halted step uses up an input sample, are the model's choices, logs 9
and 28: R22 does not say them, and R300 (a) and R313 read "lost" and "no change". -/
def Obligations.OnlyJamHaltsAndOnlyResetEndsIt : Prop :=
  State.reset.halted = false ∧
  (∀ s : State, s.halted = true → s.sample.reset = false → step s =
    .next { s with inputs := s.inputs.tail, nmiPending := s.nmiPending || s.sample.nmi }) ∧
  (∀ s : State, s.sample.reset = true → ∃ t, step s = .next t ∧ t.halted = false) ∧
  (∀ s t : State, step s = .next t → s.halted = false → t.halted = true →
    ∃ u, s.boundary = .instruction u ∧ u.fetch.1.mnemonic = .jam)

/-- Every step of every state answers a next state: there is no fault, and no opcode is refused (R79, R310). That
undocumented opcodes are admitted is the model's choice, log 10. -/
def Obligations.StepNeverStops : Prop := ∀ s : State, ∃ t, step s = .next t

/-! ### Memory -/

/-- What a read and a write do by what answers at the address (R41; D7; 93, UNMAPPED_MEMORY). What unmapped space and
a device answer is a free value. The kinds of region are the model's choice under decision D7, logs 6 to 8. -/
def Obligations.BusAccessByRegionKind : Prop :=
  ∀ (s : State) (addr : Word) (v : Byte),
    (kindAt s.map addr = .ram → s.busRead addr = (s.mem.read addr.toNat, s) ∧
      s.busWrite addr v = { s with mem := s.mem.write addr.toNat v }) ∧
    (kindAt s.map addr = .rom → s.busRead addr = (s.mem.read addr.toNat, s) ∧ s.busWrite addr v = s) ∧
    (kindAt s.map addr = .unmapped → (∃ w, s.busRead addr = (w, { s with draws := s.draws + 1 })) ∧
      s.busWrite addr v = s) ∧
    (kindAt s.map addr = .device →
      (∃ w, s.busRead addr = (w, { s with draws := s.draws + 1, events := .read addr w :: s.events })) ∧
      s.busWrite addr v = { s with events := .write addr v :: s.events })

/-- After a write to RAM, that address reads the byte written and every other address of RAM or ROM reads as before
(R41). -/
def Obligations.ReadAfterWriteGivesTheByte : Prop :=
  ∀ (s : State) (addr other : Word) (v : Byte), s.mem.wf → kindAt s.map addr = .ram → s.stored other →
    ((s.busWrite addr v).busRead other).1 = if other = addr then v else (s.busRead other).1

/-- Every step keeps memory in its canonical form. -/
def Obligations.StepKeepsMemoryCanonical : Prop :=
  ∀ s t : State, s.mem.wf → step s = .next t → t.mem.wf

/-- The memory of the reset state is in canonical form. -/
def Obligations.ResetMemoryIsCanonical : Prop := State.reset.mem.wf

/-- No step changes the memory map, or a byte of ROM, of a device's addresses or of unmapped space; every step uses up
one input sample (R41, R57). The kinds of region are the model's choice, logs 6, 7; so is the list of input samples,
of which a step uses up one, a step of a halted core too, where R313 reads "no change", logs 9 and 28. -/
def Obligations.StepChangesOnlyRam : Prop :=
  ∀ s t : State, step s = .next t →
    t.map = s.map ∧ t.inputs = s.inputs.tail ∧
      ∀ addr : Word, kindAt s.map addr ≠ .ram → t.mem.read addr.toNat = s.mem.read addr.toNat

/-- The frame of memory for all instructions: every byte reads as before except at the addresses the instruction
stores to, computed as the instruction computes them. -/
def Obligations.InstructionsStoreOnlyWhereTheyName : Prop :=
  ∀ (i : Instr) (s t : State) (addr : Word), exec i s = .next t → addr ∉ storedAddresses i s →
    t.mem.read addr.toNat = s.mem.read addr.toNat

/-! ### Registers and flags of the whole instruction set -/

/-- A, X, Y and S are written only by the instructions that R11 to R14 list; the memory map, the inputs and the NMI
latch by none; the halted state by JAM alone. -/
def Obligations.RegistersWrittenOnlyAsListed : Prop :=
  ∀ (i : Instr) (s t : State), exec i s = .next t →
    (writesA i = false → t.a = s.a) ∧ (writesX i = false → t.x = s.x) ∧ (writesY i = false → t.y = s.y) ∧
    (writesS i = false → t.sp = s.sp) ∧ t.map = s.map ∧ t.inputs = s.inputs ∧ t.nmiPending = s.nmiPending ∧
    (i.mnemonic ≠ .jam → t.halted = s.halted)

/-- Each flag does what the flags table of the instruction says: kept, reset or set (`95_test_vectors.md` 1.2). -/
def Obligations.FlagsWrittenOnlyAsTabled : Prop :=
  ∀ (i : Instr) (s t : State), exec i s = .next t →
    (flagRow i.mnemonic).n.holds s.p.n t.p.n ∧ (flagRow i.mnemonic).v.holds s.p.v t.p.v ∧
    (flagRow i.mnemonic).d.holds s.p.d t.p.d ∧ (flagRow i.mnemonic).i.holds s.p.i t.p.i ∧
    (flagRow i.mnemonic).z.holds s.p.z t.p.z ∧ (flagRow i.mnemonic).c.holds s.p.c t.p.c

/-- D is changed by no step but a reset and the instructions SED, CLD, PLP and RTI (R204). That interrupt entry leaves
D is the model's choice from the spec's general knowledge (its mark at R204 and R320), log 32. -/
def Obligations.DecimalFlagChangesOnlyBySoftware : Prop :=
  ∀ s t : State, step s = .next t → t.p.d = s.p.d ∨ s.sample.reset = true ∨
    ∃ u, s.boundary = .instruction u ∧ u.fetch.1.mnemonic ∈ [Mnemonic.sed, .cld, .plp, .rti]

/-- An instruction that is not a control transfer, and not JAM, leaves PC past its own bytes, modulo 65536 (R17). -/
def Obligations.PcMovesPastTheInstruction : Prop :=
  ∀ (i : Instr) (s t : State), i.mnemonic ∉ transfers → exec i s = .next t →
    t.pc.toNat = (s.pc.toNat + (encode i).length) % 65536

/-- No register, flag, memory byte or event depends on the count of cycles: a step from a state with a later count is
the same step with a later count (R84, R360). The count is the model's own field, log 30. -/
def Obligations.CycleCountInfluencesNothing : Prop :=
  ∀ (s : State) (n : Nat), ∃ t, step s = .next t ∧
    step { s with cycles := s.cycles + n } = .next { t with cycles := t.cycles + n }

/-- Every run from a state with canonical memory is safe: it keeps the form and never stops (R310). That opcodes are
never refused is the model's choice, log 10. -/
def Obligations.RunsFromWellFormedStatesAreSafe : Prop := ∀ s : State, s.wf → s.safe

/-! ### Addressing modes -/

/-- The effective addresses of the modes without a pointer, and when an indexed one crosses a page: zero-page sums
wrap modulo 256, 16-bit sums modulo 65536 (R104 to R108). The wraps and what a page crossing is are the model's choice
from the spec's general knowledge, log 23. -/
def Obligations.DirectModesComputeTheirAddress : Prop :=
  ∀ (s : State) (b : Byte) (w : Word),
    (∀ m ∈ [MemOperand.zp b, .zpx b, .zpy b, .abs w], pageCrossed (locate m s).base (locate m s).ea = false) ∧
    (∀ m ∈ [MemOperand.zp b, .zpx b, .zpy b, .abs w, .abx w, .aby w], (locate m s).after = s) ∧
    (locate (.zp b) s).ea.toNat = b.toNat ∧
    (locate (.zpx b) s).ea.toNat = (b.toNat + s.x.toNat) % 256 ∧
    (locate (.zpy b) s).ea.toNat = (b.toNat + s.y.toNat) % 256 ∧
    (locate (.abs w) s).ea = w ∧
    (locate (.abx w) s).ea.toNat = (w.toNat + s.x.toNat) % 65536 ∧
    (locate (.aby w) s).ea.toNat = (w.toNat + s.y.toNat) % 65536 ∧
    (pageCrossed (locate (.abx w) s).base (locate (.abx w) s).ea = true ↔ w.toNat % 256 + s.x.toNat ≥ 256) ∧
    (pageCrossed (locate (.aby w) s).base (locate (.aby w) s).ea = true ↔ w.toNat % 256 + s.y.toNat ≥ 256)

/-- The effective addresses of the two zero-page pointer modes, the pointer lying in RAM or ROM: low byte first, both
pointer bytes in the zero page (R109, R110). The reads, their order and the wraps are the model's choice from the
spec's general knowledge, log 23. -/
def Obligations.PointerModesComputeTheirAddress : Prop :=
  (∀ (s : State) (b : Byte),
    let z := b + s.x
    let l := locate (.izx b) s
    s.stored (z.setWidth 16) → s.stored ((z + 1).setWidth 16) →
      l.ea.toNat = (s.mem.read ((z.toNat + 1) % 256)).toNat * 256 + (s.mem.read z.toNat).toNat ∧
        pageCrossed l.base l.ea = false ∧ l.after = s) ∧
  ∀ (s : State) (b : Byte),
    let l := locate (.izy b) s
    let lo := (s.mem.read b.toNat).toNat
    let hi := (s.mem.read ((b.toNat + 1) % 256)).toNat
    s.stored (b.setWidth 16) → s.stored ((b + 1).setWidth 16) →
      l.base.toNat = hi * 256 + lo ∧ l.ea.toNat = (hi * 256 + lo + s.y.toNat) % 65536 ∧
        (pageCrossed l.base l.ea = true ↔ lo + s.y.toNat ≥ 256) ∧ l.after = s

/-! ### The status byte, N and Z, the stack -/

/-- The byte that stands for P on the stack, bits 5 and 4 no flags; taking P from a byte reads bits 7, 6, 3, 2, 1 and
0 and ignores bits 5 and 4; a pushed P is pulled back unchanged (R20, R21). The bit positions are the model's choice
from the spec's general knowledge, log 21. -/
def Obligations.StatusByteHoldsTheFlags : Prop :=
  (∀ (p : Status) (b : Bool), (p.toByte b).toNat =
    p.n.toNat * 128 + p.v.toNat * 64 + 32 + b.toNat * 16 + p.d.toNat * 8 + p.i.toNat * 4 + p.z.toNat * 2 + p.c.toNat) ∧
  (∀ v : Byte, Status.ofByte v =
    { n := decide (v.toNat / 128 % 2 = 1), v := decide (v.toNat / 64 % 2 = 1), d := decide (v.toNat / 8 % 2 = 1),
      i := decide (v.toNat / 4 % 2 = 1), z := decide (v.toNat / 2 % 2 = 1), c := decide (v.toNat % 2 = 1) }) ∧
  (∀ v : Byte, Status.ofByte (v ^^^ 0x10#8) = Status.ofByte v ∧ Status.ofByte (v ^^^ 0x20#8) = Status.ofByte v) ∧
  (∀ (p : Status) (b : Bool), Status.ofByte (p.toByte b) = p)

/-- N is bit 7 of the byte, Z says that it is 0, no other flag changes (R115). -/
def Obligations.SetNzCopiesBitSevenAndTestsZero : Prop :=
  ∀ (s : State) (v : Byte),
    s.setNZ v = { s with p := { s.p with n := decide (v.toNat ≥ 128), z := decide (v.toNat = 0) } }

/-- A push stores at $0100 + S and decrements S; a pull increments S and reads there; a pull after a push, the stack
slot being RAM, gives the byte back and restores S (R116, R117). The page and the wrap are the model's choice from the
spec's general knowledge, log 22. -/
def Obligations.PushAndPullUseTheStackSlot : Prop :=
  (∀ (s : State) (v : Byte),
    s.push v = { s.busWrite (0x0100#16 + s.sp.setWidth 16) v with sp := s.sp - 1 }) ∧
  (∀ s : State, s.pull = State.busRead (0x0100#16 + (s.sp + 1).setWidth 16) { s with sp := s.sp + 1 }) ∧
  (∀ (s : State) (v : Byte), s.mem.wf → kindAt s.map (0x0100#16 + s.sp.setWidth 16) = .ram →
    (s.push v).pull.1 = v ∧ (s.push v).pull.2.sp = s.sp)

/-! ### Loads and stores -/

/-- The loads LDA, LDX, LDY, LAX and LAS, by every mode: the destination registers and N and Z from the operand,
nothing else but PC and the cycles (R130 to R134). -/
def Obligations.LoadsWriteTheirRegisters : Prop :=
  ∀ (i : Instr) (src : Source) (s : State), i.operand = src.operand →
    let f := fetchSource src s
    let r := ends i (readCycles src f.crossed) (afterRead s f.after)
    (i.mnemonic = .lda → exec i s = .next { r with a := f.value, p := nz s.p f.value }) ∧
    (i.mnemonic = .ldx → exec i s = .next { r with x := f.value, p := nz s.p f.value }) ∧
    (i.mnemonic = .ldy → exec i s = .next { r with y := f.value, p := nz s.p f.value }) ∧
    (i.mnemonic = .lax → exec i s = .next { r with a := f.value, x := f.value, p := nz s.p f.value }) ∧
    (i.mnemonic = .las → exec i s =
      .next { r with a := f.value &&& s.sp, x := f.value &&& s.sp, sp := f.value &&& s.sp, p := nz s.p (f.value &&& s.sp) })

/-- The stores STA, STX, STY and SAX, by every mode: one write at EA, no flag and no register but PC (R135, R139 to
R141). -/
def Obligations.StoresWriteOneByte : Prop :=
  ∀ (i : Instr) (m : MemOperand) (s : State), i.operand = .memory m →
    let l := locate m s
    let r := fun v : Byte => ends i (storeCycles m) ((afterRead s l.after).busWrite l.ea v)
    (i.mnemonic = .sta → exec i s = .next (r s.a)) ∧ (i.mnemonic = .stx → exec i s = .next (r s.x)) ∧
    (i.mnemonic = .sty → exec i s = .next (r s.y)) ∧ (i.mnemonic = .sax → exec i s = .next (r (s.a &&& s.x)))

/-- The stores SHA, SHX, SHY and SHS: the register is ANDed with the upper 8 bits of the address before indexing, plus
1; SHS also sets S (R118, R136 to R138, R160; how a page crossing behaves is log 14, which byte counts for `($nn),Y`
is log 24). -/
def Obligations.HighByteStoresUseTheUnindexedAddress : Prop :=
  ∀ (s : State) (w : Word) (b : Byte),
    let h := w.extractLsb' 8 8 + 1
    let byY := w + s.y.setWidth 16
    let byX := w + s.x.setWidth 16
    let ptr := s.readPair (b.setWidth 16) ((b + 1).setWidth 16)
    exec (.shaAby w) s = .next (ends (.shaAby w) 5 (s.busWrite byY (s.a &&& s.x &&& h))) ∧
    exec (.shx w) s = .next (ends (.shx w) 5 (s.busWrite byY (s.x &&& h))) ∧
    exec (.shy w) s = .next (ends (.shy w) 5 (s.busWrite byX (s.y &&& h))) ∧
    exec (.shs w) s =
      .next (ends (.shs w) 5 (({ s with sp := s.a &&& s.x } : State).busWrite byY (s.a &&& s.x &&& h))) ∧
    exec (.shaIzy b) s =
      .next (ends (.shaIzy b) 6 ((afterRead s ptr.2).busWrite (ptr.1 + s.y.setWidth 16)
        (s.a &&& s.x &&& (ptr.1.extractLsb' 8 8 + 1))))

/-! ### Transfers and stack -/

/-- The six register transfers: encoding, destination, N and Z (TXS writes no flag), PC and cycles (R161 to R166). -/
def Obligations.TransfersCopyRegisters : Prop :=
  encode .tax = [0xAA#8] ∧ encode .tay = [0xA8#8] ∧ encode .tsx = [0xBA#8] ∧ encode .txa = [0x8A#8] ∧
  encode .txs = [0x9A#8] ∧ encode .tya = [0x98#8] ∧
  ∀ s : State,
    exec .tax s = .next (ends .tax 2 { s with x := s.a, p := nz s.p s.a }) ∧
    exec .tay s = .next (ends .tay 2 { s with y := s.a, p := nz s.p s.a }) ∧
    exec .tsx s = .next (ends .tsx 2 { s with x := s.sp, p := nz s.p s.sp }) ∧
    exec .txa s = .next (ends .txa 2 { s with a := s.x, p := nz s.p s.x }) ∧
    exec .txs s = .next (ends .txs 2 { s with sp := s.x }) ∧
    exec .tya s = .next (ends .tya 2 { s with a := s.y, p := nz s.p s.y })

/-- PHA, PHP, PLA and PLP: encoding, stack access, S, flags, PC and cycles (R167 to R170). The stack page and the two
spare bits are the model's choice, logs 21, 22. -/
def Obligations.StackInstructionsMoveOneByte : Prop :=
  encode .pha = [0x48#8] ∧ encode .php = [0x08#8] ∧ encode .pla = [0x68#8] ∧ encode .plp = [0x28#8] ∧
  ∀ s : State,
    let slot := stackSlot s 0
    let r := s.busRead (0x0100#16 + (s.sp + 1).setWidth 16)
    exec .pha s = .next (ends .pha 3 { s.busWrite slot s.a with sp := s.sp - 1 }) ∧
    exec .php s = .next (ends .php 3 { s.busWrite slot (s.p.toByte true) with sp := s.sp - 1 }) ∧
    exec .pla s = .next (ends .pla 4 { afterRead s r.2 with sp := s.sp + 1, a := r.1, p := nz s.p r.1 }) ∧
    exec .plp s = .next (ends .plp 4 { afterRead s r.2 with sp := s.sp + 1, p := Status.ofByte r.1 })

/-! ### Shifts and logic -/

/-- ASL, LSR, ROL and ROR on the accumulator and on memory, by every mode: the result written back where the operand
came from, C the bit shifted out, N and Z from the result, V, D and I unchanged (R180 to R184). -/
def Obligations.ShiftsWriteBackAndSetCarry : Prop :=
  ∀ (i : Instr) (s : State), i.mnemonic ∈ [Mnemonic.asl, .lsr, .rol, .ror] →
    (i.operand = .accumulator →
      let r := shifted i.mnemonic s.a s.p.c
      exec i s = .next (ends i 2 { s with a := r.1, p := { nz s.p r.1 with c := r.2 } })) ∧
    (∀ m : MemOperand, i.operand = .memory m →
      let l := locate m s
      let o := l.after.busRead l.ea
      let r := shifted i.mnemonic o.1 s.p.c
      exec i s = .next (ends i (modifyCycles m)
        { (afterRead s o.2).busWrite l.ea r.1 with p := { nz s.p r.1 with c := r.2 } }))

/-- The rotate is through the carry, 9 bits in all: nine ROL A leave A and C as they were, and so do nine ROR A
(R183). -/
def Obligations.NineRotatesRestoreAccumulatorAndCarry : Prop :=
  ∀ s : State,
    (∃ t, Nat.iterate (fun r : Result => match r with
        | .next u => exec .rolAcc u
        | r => r) 9 (.next s) = .next t ∧ t.a = s.a ∧ t.p.c = s.p.c) ∧
    (∃ t, Nat.iterate (fun r : Result => match r with
        | .next u => exec .rorAcc u
        | r => r) 9 (.next s) = .next t ∧ t.a = s.a ∧ t.p.c = s.p.c)

/-- AND, EOR and ORA into A with N and Z; BIT takes N and V from the operand and Z from the AND, and changes no
register; every mode (R185 to R188). -/
def Obligations.LogicCombinesWithAccumulator : Prop :=
  ∀ (i : Instr) (src : Source) (s : State), i.operand = src.operand →
    let f := fetchSource src s
    let r := ends i (readCycles src f.crossed) (afterRead s f.after)
    (i.mnemonic = .and → exec i s = .next { r with a := s.a &&& f.value, p := nz s.p (s.a &&& f.value) }) ∧
    (i.mnemonic = .eor → exec i s = .next { r with a := s.a ^^^ f.value, p := nz s.p (s.a ^^^ f.value) }) ∧
    (i.mnemonic = .ora → exec i s = .next { r with a := s.a ||| f.value, p := nz s.p (s.a ||| f.value) }) ∧
    (i.mnemonic = .bit → exec i s = .next
      { r with
        p := { s.p with
          n := f.value.getLsbD 7, v := f.value.getLsbD 6, z := decide (s.a &&& f.value = 0x00#8) } })

/-! ### Arithmetic -/

/-- Binary ADC as arithmetic: value and carry together are the exact sum, V says that the signed sum does not fit, N
and Z are those of the value (R200). -/
def Obligations.BinaryAdcIsExact : Prop :=
  ∀ (a m : Byte) (c : Bool),
    let r := binaryAdc a m c
    r.value.toNat + 256 * r.c.toNat = a.toNat + m.toNat + c.toNat ∧
    (r.v = true ↔ a.toInt + m.toInt + c.toNat < -128 ∨ 127 < a.toInt + m.toInt + c.toNat) ∧
    r.n = r.value.getLsbD 7 ∧ (r.z = true ↔ r.value = 0x00#8)

/-- Binary SBC as arithmetic: C = 1 means no borrow, V says that the signed difference does not fit; and it is the
binary ADC of the complement (R210). -/
def Obligations.BinarySbcIsExact : Prop :=
  ∀ (a m : Byte) (c : Bool),
    let r := binarySbc a m c
    (r.value.toNat : Int) = (a.toNat : Int) - m.toNat - (1 - c.toNat) + (if r.c then 0 else 256) ∧
    (r.v = true ↔ a.toInt - m.toInt - (1 - c.toNat) < -128 ∨ 127 < a.toInt - m.toInt - (1 - c.toNat)) ∧
    r = binaryAdc a (m ^^^ 0xFF#8) c

/-- Decimal ADC and SBC on valid BCD operands give the decimal result and carry (R205). The spec marks the formulas as
derived; the instance is the model's choice, log 12. -/
def Obligations.DecimalModeAddsAndSubtractsBcd : Prop :=
  ∀ (a m : Nat) (c : Bool), a < 100 → m < 100 →
    let sum := a + m + c.toNat
    let difference : Int := (a : Int) - m - (1 - c.toNat)
    (decimalAdc (bcd a) (bcd m) c).value = bcd (sum % 100) ∧
    (decimalAdc (bcd a) (bcd m) c).c = decide (sum > 99) ∧
    (decimalSbc (bcd a) (bcd m) c).value = bcd (difference % 100).toNat ∧
    (decimalSbc (bcd a) (bcd m) c).c = decide (difference ≥ 0)

/-- ADC and SBC by every mode: A and N, V, Z, C from the arithmetic that P.D selects; D, I and the other registers
unchanged (R200, R204, R210; the decimal instance is R207 and R208, log 12). -/
def Obligations.AddAndSubtractByEveryMode : Prop :=
  ∀ (i : Instr) (src : Source) (s : State), i.operand = src.operand →
    let f := fetchSource src s
    let r := ends i (readCycles src f.crossed) (afterRead s f.after)
    let add := if s.p.d then decimalAdc s.a f.value s.p.c else binaryAdc s.a f.value s.p.c
    let sub := if s.p.d then decimalSbc s.a f.value s.p.c else binarySbc s.a f.value s.p.c
    (i.mnemonic = .adc → exec i s = .next { r with a := add.value, p := arithFlags s.p add }) ∧
    (i.mnemonic = .sbc → exec i s = .next { r with a := sub.value, p := arithFlags s.p sub })

/-- CMP, CPX and CPY by every mode: C, Z and N from the unsigned comparison and the difference, whatever D and the old
C are; no register changes (R201 to R203). -/
def Obligations.ComparesWriteOnlyFlags : Prop :=
  ∀ (i : Instr) (src : Source) (s : State), i.operand = src.operand →
    let f := fetchSource src s
    let r := ends i (readCycles src f.crossed) (afterRead s f.after)
    (i.mnemonic = .cmp → exec i s = .next { r with p := compared s.p s.a f.value }) ∧
    (i.mnemonic = .cpx → exec i s = .next { r with p := compared s.p s.x f.value }) ∧
    (i.mnemonic = .cpy → exec i s = .next { r with p := compared s.p s.y f.value })

/-! ### Undocumented arithmetic -/

/-- ANC, ASR, ARR and SBX on an immediate byte (R220, R221, R222, R227; ARR with D = 1 leaves A unadjusted as the
source has it, log 15). -/
def Obligations.UndocumentedImmediateArithmetic : Prop :=
  ∀ (s : State) (d : Byte),
    let t := s.a &&& d
    let r := BitVec.ofNat 8 (t.toNat / 2 + 128 * s.p.c.toNat)
    let u := s.a &&& s.x
    (∀ i ∈ [Instr.ancImm0B d, .ancImm2B d], exec i s =
      .next (ends i 2 { s with a := t, p := { nz s.p t with c := t.getLsbD 7 } })) ∧
    exec (.asr d) s = .next (ends (.asr d) 2
      { s with
        a := BitVec.ofNat 8 (t.toNat / 2)
        p := { s.p with n := false, z := decide (t.toNat / 2 = 0), c := decide (t.toNat % 2 = 1) } }) ∧
    exec (.arr d) s = .next (ends (.arr d) 2
      { s with
        a := r
        p := { nz s.p r with
          v := if s.p.d then r.getLsbD 6 != t.getLsbD 6 else r.getLsbD 6 != r.getLsbD 5
          c := if s.p.d then decide ((t &&& 0xF0#8).toNat + (t &&& 0x10#8).toNat > 0x50) else r.getLsbD 6 } }) ∧
    exec (.sbx d) s = .next (ends (.sbx d) 2
      { s with x := u - d, p := { nz s.p (u - d) with c := decide (d.toNat ≤ u.toNat) } })

/-- XAA writes a byte to A that is not fixed, and N and Z from that byte; nothing else changes but PC, the cycles and
the count of free values (R240, level 1; log 11). -/
def Obligations.XaaWritesSomeByteWithItsFlags : Prop :=
  ∀ (s : State) (d : Byte), ∃ v : Byte,
    exec (.xaa d) s = .next (ends (.xaa d) 2 { s with a := v, p := nz s.p v, draws := s.draws + 1 })

/-- DCP, ISC, RLA, RRA, SLO and SRE by every mode: the memory byte is modified, then A or the flags take the new byte
(R223 to R226, R228 to R230). -/
def Obligations.ReadModifyWritePairs : Prop :=
  ∀ (i : Instr) (m : MemOperand) (s : State), i.operand = .memory m →
    let l := locate m s
    let o := l.after.busRead l.ea
    let r := fun v : Byte => ends i (modifyCycles m) ((afterRead s o.2).busWrite l.ea v)
    let rol := shifted .rol o.1 s.p.c
    let ror := shifted .ror o.1 s.p.c
    let asl := shifted .asl o.1 s.p.c
    let lsr := shifted .lsr o.1 s.p.c
    let sub := if s.p.d then decimalSbc s.a (o.1 + 1) s.p.c else binarySbc s.a (o.1 + 1) s.p.c
    let add := if s.p.d then decimalAdc s.a ror.1 ror.2 else binaryAdc s.a ror.1 ror.2
    (i.mnemonic = .dcp → exec i s = .next { r (o.1 - 1) with p := compared s.p s.a (o.1 - 1) }) ∧
    (i.mnemonic = .isc → exec i s = .next { r (o.1 + 1) with a := sub.value, p := arithFlags s.p sub }) ∧
    (i.mnemonic = .rla → exec i s =
      .next { r rol.1 with a := s.a &&& rol.1, p := { nz s.p (s.a &&& rol.1) with c := rol.2 } }) ∧
    (i.mnemonic = .rra → exec i s = .next { r ror.1 with a := add.value, p := arithFlags s.p add }) ∧
    (i.mnemonic = .slo → exec i s =
      .next { r asl.1 with a := s.a ||| asl.1, p := { nz s.p (s.a ||| asl.1) with c := asl.2 } }) ∧
    (i.mnemonic = .sre → exec i s =
      .next { r lsr.1 with a := s.a ^^^ lsr.1, p := { nz s.p (s.a ^^^ lsr.1) with c := lsr.2 } })

/-! ### Increment and decrement -/

/-- INC and DEC by every mode, INX, INY, DEX and DEY: one more or less modulo 256, N and Z from the result, C and V
unchanged (R250 to R255). That INC and DEC access EA once to read and once to write, with no second write, is the
model's choice under decision D9, log 25. -/
def Obligations.IncrementsAndDecrementsWrap : Prop :=
  encode .dex = [0xCA#8] ∧ encode .dey = [0x88#8] ∧ encode .inx = [0xE8#8] ∧ encode .iny = [0xC8#8] ∧
  (∀ (i : Instr) (m : MemOperand) (s : State), i.operand = .memory m →
    let l := locate m s
    let o := l.after.busRead l.ea
    let up := BitVec.ofNat 8 ((o.1.toNat + 1) % 256)
    let down := BitVec.ofNat 8 ((o.1.toNat + 255) % 256)
    let r := fun v : Byte => ends i (modifyCycles m) { (afterRead s o.2).busWrite l.ea v with p := nz s.p v }
    (i.mnemonic = .inc → exec i s = .next (r up)) ∧ (i.mnemonic = .dec → exec i s = .next (r down))) ∧
  ∀ s : State,
    let up := fun v : Byte => BitVec.ofNat 8 ((v.toNat + 1) % 256)
    let down := fun v : Byte => BitVec.ofNat 8 ((v.toNat + 255) % 256)
    exec .inx s = .next (ends .inx 2 { s with x := up s.x, p := nz s.p (up s.x) }) ∧
    exec .iny s = .next (ends .iny 2 { s with y := up s.y, p := nz s.p (up s.y) }) ∧
    exec .dex s = .next (ends .dex 2 { s with x := down s.x, p := nz s.p (down s.x) }) ∧
    exec .dey s = .next (ends .dey 2 { s with y := down s.y, p := nz s.p (down s.y) })

/-! ### Control transfer -/

/-- JMP: the absolute form takes PC from its operand; the indirect form, its pointer lying in RAM or ROM, from memory,
the high byte from the same page as the low byte (R111, R261, R262; the page wrap is log 17). -/
def Obligations.JumpsSetPc : Prop :=
  ∀ (s : State) (w : Word),
    let hi := w.toNat / 256 * 256 + (w.toNat + 1) % 256
    encode (.jmpAbs w) = [0x4C#8, w.extractLsb' 0 8, w.extractLsb' 8 8] ∧
    encode (.jmpInd w) = [0x6C#8, w.extractLsb' 0 8, w.extractLsb' 8 8] ∧
    exec (.jmpAbs w) s = .next { s with pc := w, cycles := s.cycles + 3 } ∧
    (∃ t, exec (.jmpInd w) s = .next t ∧ t = { afterRead s t with pc := t.pc, cycles := s.cycles + 5 }) ∧
    (s.stored w → s.stored (BitVec.ofNat 16 hi) →
      exec (.jmpInd w) s = .next
        { s with
          pc := BitVec.ofNat 16 ((s.mem.read hi).toNat * 256 + (s.mem.read w.toNat).toNat)
          cycles := s.cycles + 5 })

/-- JSR pushes the address of its own last byte, high byte first, and jumps; RTS pulls an address, low byte first, and
continues one past it (R263, R265). The stack page and that JSR reads its operand before it pushes are the model's
choice, logs 22, 29. -/
def Obligations.CallAndReturnMovePcAndStack : Prop :=
  ∀ (s : State) (w : Word),
    let ret := s.pc + 2
    let called := (s.busWrite (stackSlot s 0) (ret.extractLsb' 8 8)).busWrite (stackSlot s 1) (ret.extractLsb' 0 8)
    let pulled := s.readPair (0x0100#16 + (s.sp + 1).setWidth 16) (0x0100#16 + (s.sp + 2).setWidth 16)
    encode (.jsr w) = [0x20#8, w.extractLsb' 0 8, w.extractLsb' 8 8] ∧ encode .rts = [0x60#8] ∧
    exec (.jsr w) s = .next { called with sp := s.sp - 2, pc := w, cycles := s.cycles + 6 } ∧
    exec .rts s = .next
      { afterRead s pulled.2 with sp := s.sp + 2, pc := pulled.1 + 1, cycles := s.cycles + 6 }

/-- A return right after a call, the stack being RAM, comes back to the instruction after the JSR with every register
and flag as it was (R263, R265). The stack page is the model's choice, log 22. -/
def Obligations.ReturnAfterCallComesBack : Prop :=
  ∀ (s : State) (w : Word), s.mem.wf → kindAt s.map (stackSlot s 0) = .ram → kindAt s.map (stackSlot s 1) = .ram →
    ∃ t u, exec (.jsr w) s = .next t ∧ exec .rts t = .next u ∧ t.pc = w ∧
      u.pc = s.pc + 3 ∧ u.sp = s.sp ∧ u.a = s.a ∧ u.x = s.x ∧ u.y = s.y ∧ u.p = s.p

/-- BRK runs the interrupt sequence with PC + 2, B = 1 and the vector at $FFFE; RTI pulls P, PCL and PCH (R260, R264).
The status byte, the stack page and the wraps are the model's choice, logs 21, 22. -/
def Obligations.BreakAndReturnFromInterrupt : Prop :=
  encode .brk = [0x00#8] ∧ encode .rti = [0x40#8] ∧
  ∀ s : State,
    let status := s.busRead (0x0100#16 + (s.sp + 1).setWidth 16)
    let target := status.2.readPair (0x0100#16 + (s.sp + 2).setWidth 16) (0x0100#16 + (s.sp + 3).setWidth 16)
    exec .brk s = .next (entered (s.pc + 2) true 0xFFFE#16 s) ∧
    exec .rti s = .next
      { afterRead s target.2 with
        sp := s.sp + 3, p := Status.ofByte status.1, pc := target.1, cycles := s.cycles + 6 }

/-- The eight branches: PC becomes the target when the flag has the tested value and the address of the next
instruction otherwise; the target is the signed displacement from that address, modulo 65536; 2 cycles, one more if
taken, one more if the target lies in another page; nothing else changes (R112, R280 to R288). The target formula and
the page compared are the model's choice from the spec's general knowledge, log 23. -/
def Obligations.BranchesTestOneFlag : Prop :=
  ∀ (s : State) (r : Byte),
    let next : Nat := (s.pc.toNat + 2) % 65536
    let target : Nat := (((next : Int) + r.toInt) % 65536).toNat
    let go := fun taken : Bool =>
      { s with
        pc := BitVec.ofNat 16 (if taken then target else next)
        cycles := s.cycles + 2 + taken.toNat + (taken && decide (target / 256 ≠ next / 256)).toNat }
    exec (.bcc r) s = .next (go (!s.p.c)) ∧ exec (.bcs r) s = .next (go s.p.c) ∧
    exec (.beq r) s = .next (go s.p.z) ∧ exec (.bne r) s = .next (go (!s.p.z)) ∧
    exec (.bmi r) s = .next (go s.p.n) ∧ exec (.bpl r) s = .next (go (!s.p.n)) ∧
    exec (.bvc r) s = .next (go (!s.p.v)) ∧ exec (.bvs r) s = .next (go s.p.v)

/-- The seven flag instructions: encoding, the one flag each writes, PC and cycles (R289 to R295). When a change of I
acts is the model's choice, log 16. -/
def Obligations.FlagInstructionsWriteOneFlag : Prop :=
  encode .clc = [0x18#8] ∧ encode .cld = [0xD8#8] ∧ encode .cli = [0x58#8] ∧ encode .clv = [0xB8#8] ∧
  encode .sec = [0x38#8] ∧ encode .sed = [0xF8#8] ∧ encode .sei = [0x78#8] ∧
  ∀ s : State,
    exec .clc s = .next (ends .clc 2 { s with p := { s.p with c := false } }) ∧
    exec .cld s = .next (ends .cld 2 { s with p := { s.p with d := false } }) ∧
    exec .cli s = .next (ends .cli 2 { s with p := { s.p with i := false } }) ∧
    exec .clv s = .next (ends .clv 2 { s with p := { s.p with v := false } }) ∧
    exec .sec s = .next (ends .sec 2 { s with p := { s.p with c := true } }) ∧
    exec .sed s = .next (ends .sed 2 { s with p := { s.p with d := true } }) ∧
    exec .sei s = .next (ends .sei 2 { s with p := { s.p with i := true } })

/-- JAM halts and leaves everything else, PC included; a NOP changes nothing but PC, the cycles and what its operand
read leaves; every opcode of both (R300 to R303). That PC stays at the JAM, and that a NOP with a memory operand reads
it, are the model's choice, logs 19, 28. -/
def Obligations.JamHaltsAndNopOnlyMovesOn : Prop :=
  ∀ (i : Instr) (s : State),
    (i.mnemonic = .jam → exec i s = .next { s with halted := true }) ∧
    (i.mnemonic = .nop → i.operand = .implied → exec i s = .next (ends i 2 s)) ∧
    (∀ src : Source, i.mnemonic = .nop → i.operand = src.operand →
      let f := fetchSource src s
      exec i s = .next (ends i (readCycles src f.crossed) (afterRead s f.after)))

/-! ### Interrupts and reset -/

/-- Interrupt acceptance and entry (R314 to R316, R320): with no RESET and the core not halted, a pending or arriving
NMI is taken first, whatever I is, through $FFFA, and clears its latch; without one, an asserted IRQ with I = 0
through $FFFE. Both push the address of the instruction not yet executed and P with B = 0. The sequence and the
priority are the model's choice from the spec's general knowledge, log 32; the list of input samples, of which a step
uses up one, is the model's choice, log 9. -/
def Obligations.InterruptsEnterThroughTheirVectors : Prop :=
  ∀ s : State, s.sample.reset = false → s.halted = false →
    ((s.nmiPending = true ∨ s.sample.nmi = true) → step s =
      .next (entered s.pc false 0xFFFA#16 { s with inputs := s.inputs.tail, nmiPending := false })) ∧
    (s.nmiPending = false → s.sample.nmi = false → s.sample.irq = true → s.p.i = false → step s =
      .next (entered s.pc false 0xFFFE#16 { s with inputs := s.inputs.tail }))

/-- What an interrupt sequence leaves on a stack of RAM, with the vector in RAM or ROM: the return address, high byte
at the higher slot, the status byte with the old I, S three lower, PC the word at the vector; every other byte of
memory reads as before (R320). The model's choice from the spec's general knowledge, logs 21, 22, 32. -/
def Obligations.InterruptSequenceSavesPcAndStatus : Prop :=
  ∀ (s : State) (ret vector : Word) (b : Bool), s.mem.wf → stackRam s → s.stored vector → s.stored (vector + 1) →
    vector.toNat ≥ 0xFFFA →
    let t := s.interruptSequence ret b vector
    t.mem.read (stackSlot s 0).toNat = ret.extractLsb' 8 8 ∧ t.mem.read (stackSlot s 1).toNat = ret.extractLsb' 0 8 ∧
    t.mem.read (stackSlot s 2).toNat = s.p.toByte b ∧
    (∀ addr : Word, addr ∉ [stackSlot s 0, stackSlot s 1, stackSlot s 2] →
      t.mem.read addr.toNat = s.mem.read addr.toNat) ∧
    t.sp = s.sp - 3 ∧ t.p = { s.p with i := true } ∧
    t.pc = s.mem.read (vector + 1).toNat ++ s.mem.read vector.toNat ∧
    t.a = s.a ∧ t.x = s.x ∧ t.y = s.y ∧ t.halted = s.halted ∧ t.nmiPending = s.nmiPending

/-- An RTI right after an interrupt sequence, the stack being RAM, restores P, PC and S and changes no other register,
whatever B position was pushed (R322). The model's choice from the spec's general knowledge, logs 21, 22, 32. -/
def Obligations.ReturnFromInterruptRestores : Prop :=
  ∀ (s : State) (ret vector : Word) (b : Bool), s.mem.wf → stackRam s →
    ∃ u, exec .rti (s.interruptSequence ret b vector) = .next u ∧
      u.p = s.p ∧ u.pc = ret ∧ u.sp = s.sp ∧ u.a = s.a ∧ u.x = s.x ∧ u.y = s.y

/-- Asserting RESET at a boundary, halted or not and whatever else is asserted: not halted, no NMI pending, I = 1, no
memory written, PC from the word at $FFFC when it lies in RAM or ROM; A, X, Y, S and the other flags are free values,
of which nothing is said (R316, R350). I = 1, the vector and 7 cycles are the model's choice from the spec's general
knowledge, logs 3, 4, 30; the list of input samples, of which a step uses up one, is the model's choice, log 9. -/
def Obligations.ResetSequenceLeaves : Prop :=
  ∀ s : State, s.sample.reset = true → ∃ t, step s = .next t ∧
    t.halted = false ∧ t.nmiPending = false ∧ t.p.i = true ∧ t.mem = s.mem ∧ t.map = s.map ∧
    t.inputs = s.inputs.tail ∧ t.cycles = s.cycles + 7 ∧
    (s.stored 0xFFFC#16 → s.stored 0xFFFD#16 → t.pc = s.mem.read 0xFFFD ++ s.mem.read 0xFFFC ∧ t.events = s.events)

/-- What the spec gives of the state after reset: I = 1, not halted, no NMI pending, PC the word at $FFFC of its
memory (R31, R32, R36). Nothing is said of the values this model chose (logs 1, 2, 5). I = 1 and the vector are the
model's choice from the spec's general knowledge, log 3. -/
def Obligations.ResetStateIsAsTheSpecGivesIt : Prop :=
  State.reset.p.i = true ∧ State.reset.halted = false ∧ State.reset.nmiPending = false ∧
  State.reset.pc = State.reset.mem.read 0xFFFD ++ State.reset.mem.read 0xFFFC ∧ Sys2Proof.core.reset = State.reset

/-! ### What the statements by mode rest on: the operand read, the cycle table, the decimal instance -/

/-- How an operand is read (R100, R103): an immediate operand is its byte, with no access; a memory operand is the one
read of EA, made after the reads of the mode, and a page is crossed when EA and the address before indexing differ in
their high bytes. The reads write nothing. That no other access is made is the model's choice under decision D9, log
25; what a page crossing is, from the spec's general knowledge, log 23. -/
def Obligations.OperandReadIsTheOneReadOfItsAddress : Prop :=
  ∀ s : State,
    (∀ d : Byte, fetchSource (.imm d) s = { value := d, crossed := false, after := s }) ∧
    ∀ m : MemOperand,
      let l := locate m s
      fetchSource (.mem m) s =
        { value := (l.after.busRead l.ea).1
          crossed := decide (l.ea.toNat / 256 ≠ l.base.toNat / 256)
          after := (l.after.busRead l.ea).2 } ∧
      l.after = afterRead s l.after ∧ (l.after.busRead l.ea).2 = afterRead s (l.after.busRead l.ea).2 ∧
      (s.stored l.ea → (l.after.busRead l.ea).1 = s.mem.read l.ea.toNat)

/-- The cycle table by mode, for reads (`p` is 1 if a page is crossed), stores, read/modify/writes and the shifts and
rotates (R361). The statements by mode add these numbers to the model's own count of cycles, log 30. -/
def Obligations.CycleTableByMode : Prop :=
  ∀ (b : Byte) (w : Word) (crossed : Bool),
    let p := if crossed then 1 else 0
    (∀ d : Byte, readCycles (.imm d) crossed = 2) ∧
    [MemOperand.zp b, .zpx b, .zpy b, .abs w, .abx w, .aby w, .izx b, .izy b].map
      (fun m => (readCycles (.mem m) crossed, storeCycles m, modifyCycles m)) =
        [(3, 3, 5), (4, 4, 6), (4, 4, 6), (4, 4, 6), (4 + p, 5, 7), (4 + p, 5, 7), (6, 6, 8), (5 + p, 6, 8)] ∧
    shiftCycles .acc = 2 ∧ ∀ m : MemOperand, shiftCycles (.mem m) = modifyCycles m

/-- Decimal ADC and SBC on all bytes, those that are no valid BCD included: A, N, V, Z and C. In ADC, N and V come
from the sum with its low digit corrected, Z from the binary sum; in SBC all four flags are those of the binary
difference. The source gives none of this but A and C on valid BCD (R205): it is the instance that R206 recommends,
with the formulas of R207 and R208 from the spec's general knowledge, and so the model's choice, log 12. -/
def Obligations.DecimalInstanceOnAllBytes : Prop :=
  ∀ (a m : Byte) (c : Bool),
    let units : Nat := a.toNat % 16 + m.toNat % 16 + c.toNat
    let corrected : Nat := if 10 ≤ units then (units + 6) % 16 + 16 else units
    let sum : Nat := a.toNat / 16 * 16 + m.toNat / 16 * 16 + corrected
    let signedSum : Int := (a.toInt - (a.toNat % 16 : Nat)) + (m.toInt - (m.toNat % 16 : Nat)) + corrected
    let borrow : Int := 1 - c.toNat
    let lower : Int := (a.toNat % 16 : Nat) - (m.toNat % 16 : Nat) - borrow
    let adjusted : Int := if lower < 0 then (lower - 6) % 16 - 16 else lower
    let whole : Int := (a.toNat / 16 * 16 : Nat) - (m.toNat / 16 * 16 : Nat) + adjusted
    let difference : Int := (a.toNat : Int) - m.toNat - borrow
    decimalAdc a m c =
      { value := BitVec.ofNat 8 (if 0xA0 ≤ sum then sum + 0x60 else sum)
        n := decide (sum / 128 % 2 = 1)
        v := decide (signedSum < -128 ∨ 127 < signedSum)
        z := decide ((a.toNat + m.toNat + c.toNat) % 256 = 0)
        c := decide (0xA0 ≤ sum) } ∧
    decimalSbc a m c =
      { value := BitVec.ofInt 8 (if whole < 0 then whole - 0x60 else whole)
        n := decide (128 ≤ difference % 256)
        v := decide (a.toInt - m.toInt - borrow < -128 ∨ 127 < a.toInt - m.toInt - borrow)
        z := decide (difference % 256 = 0)
        c := decide (0 ≤ difference) }
end

