-- ==== Sys2Proof/Laws/Exec.lean ====
section
/-! SUPPORT. The 256 arms of exec as one function of mnemonic and operand, so that a proof about a mnemonic needs no case
split over the instructions. -/

namespace Sys2Proof.Machine

/-- A meaning that reads an immediate or memory operand, applied to an operand of any kind. -/
def onSource (f : Source → State → State) : Operand → State → State
  | .immediate d, s => f (.imm d) s
  | .memory m, s => f (.mem m) s
  | _, s => s

/-- A meaning on a memory operand. -/
def onMemory (f : MemOperand → State → State) : Operand → State → State
  | .memory m, s => f m s
  | _, s => s

/-- A meaning on the accumulator or a memory operand. -/
def onTarget (f : Target → State → State) : Operand → State → State
  | .accumulator, s => f .acc s
  | .memory m, s => f (.mem m) s
  | _, s => s

/-- A meaning on an immediate operand. -/
def onImmediate (f : Byte → State → State) : Operand → State → State
  | .immediate d, s => f d s
  | _, s => s

/-- A meaning on a displacement. -/
def onRelative (f : Byte → State → State) : Operand → State → State
  | .relative r, s => f r s
  | _, s => s

/-- A meaning on an absolute or an indirect target. -/
def onTransfer (f g : Word → State → State) : Operand → State → State
  | .memory (.abs w), s => f w s
  | .indirect w, s => g w s
  | _, s => s

/-- The NOPs, with and without an operand. -/
def onNop : Operand → State → State
  | .immediate d, s => nopRead (.imm d) s
  | .memory m, s => nopRead (.mem m) s
  | _, s => nopImplied s

/-- What a mnemonic does with an operand. -/
def meaning (m : Mnemonic) (o : Operand) (s : State) : State :=
  match m with
  | .las => onSource las o s
  | .lax => onSource lax o s
  | .lda => onSource lda o s
  | .ldx => onSource ldx o s
  | .ldy => onSource ldy o s
  | .sax => onMemory sax o s
  | .sha => onMemory sha o s
  | .shx => onMemory shx o s
  | .shy => onMemory shy o s
  | .sta => onMemory sta o s
  | .stx => onMemory stx o s
  | .sty => onMemory sty o s
  | .shs => onMemory shs o s
  | .tax => tax s
  | .tay => tay s
  | .tsx => tsx s
  | .txa => txa s
  | .txs => txs s
  | .tya => tya s
  | .pha => pha s
  | .php => php s
  | .pla => pla s
  | .plp => plp s
  | .asl => onTarget asl o s
  | .lsr => onTarget lsr o s
  | .rol => onTarget rol o s
  | .ror => onTarget ror o s
  | .and => onSource andA o s
  | .bit => onSource bitTest o s
  | .eor => onSource eor o s
  | .ora => onSource ora o s
  | .adc => onSource adc o s
  | .cmp => onSource cmp o s
  | .cpx => onSource cpx o s
  | .cpy => onSource cpy o s
  | .sbc => onSource sbc o s
  | .anc => onImmediate anc o s
  | .arr => onImmediate arr o s
  | .asr => onImmediate asr o s
  | .dcp => onMemory dcp o s
  | .isc => onMemory isc o s
  | .rla => onMemory rla o s
  | .rra => onMemory rra o s
  | .sbx => onImmediate sbx o s
  | .slo => onMemory slo o s
  | .sre => onMemory sre o s
  | .xaa => onImmediate xaa o s
  | .dec => onMemory dec o s
  | .dex => dex s
  | .dey => dey s
  | .inc => onMemory inc o s
  | .inx => inx s
  | .iny => iny s
  | .brk => brk s
  | .jmp => onTransfer jmp jmpIndirect o s
  | .jsr => onTransfer jsr jsr o s
  | .rti => rti s
  | .rts => rts s
  | .bcc => onRelative (branch (!s.p.c)) o s
  | .bcs => onRelative (branch s.p.c) o s
  | .beq => onRelative (branch s.p.z) o s
  | .bmi => onRelative (branch s.p.n) o s
  | .bne => onRelative (branch (!s.p.z)) o s
  | .bpl => onRelative (branch (!s.p.n)) o s
  | .bvc => onRelative (branch (!s.p.v)) o s
  | .bvs => onRelative (branch s.p.v) o s
  | .nop => onNop o s
  | .clc => writeFlags { s.p with c := false } s
  | .cld => writeFlags { s.p with d := false } s
  | .cli => writeFlags { s.p with i := false } s
  | .clv => writeFlags { s.p with v := false } s
  | .sec => writeFlags { s.p with c := true } s
  | .sed => writeFlags { s.p with d := true } s
  | .sei => writeFlags { s.p with i := true } s
  | .jam => jam s

/-- Every arm of exec is the meaning of its mnemonic on its operand: a next state, never a fault or a refusal. -/
theorem exec_eq_meaning (i : Instr) (s : State) : exec i s = .next (meaning i.mnemonic i.operand s) := by
  cases i <;> rfl

/-- What exec answers is the meaning. -/
theorem exec_next {i : Instr} {s t : State} (h : exec i s = .next t) : t = meaning i.mnemonic i.operand s := by
  rw [exec_eq_meaning] at h
  exact (Host.Outcome.next.inj h).symm

end Sys2Proof.Machine
end

