-- ==== Sys2Proof/Laws/Memory.lean ====
section
/-! SUPPORT. The laws of memory: a read after a write, and the canonical form. -/

namespace Sys2Proof.Machine

@[simp] theorem Memory.read_nil (a : Nat) : Memory.read [] a = unlisted := rfl

theorem Memory.read_cons (b : Nat) (w : Byte) (m : Memory) (a : Nat) :
    Memory.read ((b, w) :: m) a = if b = a then w else m.read a := rfl

theorem Memory.write_nil (a : Nat) (v : Byte) :
    Memory.write [] a v = if v = unlisted then [] else [(a, v)] := rfl

theorem Memory.write_cons (b : Nat) (w : Byte) (m : Memory) (a : Nat) (v : Byte) :
    Memory.write ((b, w) :: m) a v =
      if a < b then (if v = unlisted then (b, w) :: m else (a, v) :: (b, w) :: m)
      else if a = b then (if v = unlisted then m else (a, v) :: m) else (b, w) :: m.write a v := rfl

theorem Memory.wf_nil : Memory.wf [] := by decide

theorem Memory.wf_cons {b : Nat} {w : Byte} {m : Memory} :
    Memory.wf ((b, w) :: m) ↔ ((∀ c ∈ m, b < c.1) ∧ b < 65536 ∧ w ≠ unlisted) ∧ m.wf := by
  simp only [Memory.wf, List.pairwise_cons, List.forall_mem_cons]
  tauto

/-- An address below every listed one is unlisted. -/
theorem Memory.read_below {m : Memory} {a : Nat} (h : ∀ c ∈ m, a < c.1) : m.read a = unlisted := by
  induction m with
  | nil => rfl
  | cons c m ih =>
    obtain ⟨b, w⟩ := c
    have hb : a < b := h (b, w) (List.mem_cons_self ..)
    rw [Memory.read_cons, if_neg (by omega)]
    exact ih fun d hd => h d (List.mem_cons_of_mem _ hd)

/-- A cell of the memory after a write is the written one or an old one. -/
theorem Memory.mem_write {m : Memory} {a : Nat} {v : Byte} {c : Host.Cell} (h : c ∈ m.write a v) :
    c = (a, v) ∧ v ≠ unlisted ∨ c ∈ m := by
  induction m with
  | nil =>
    rw [Memory.write_nil] at h
    split at h <;> simp_all
  | cons d m ih =>
    obtain ⟨b, w⟩ := d
    rw [Memory.write_cons] at h
    simp only [List.mem_cons]
    split at h
    · split at h <;> simp_all
    · split at h
      · subst a
        split at h
        · exact .inr (.inr h)
        · rcases List.mem_cons.1 h with h | h
          · exact .inl ⟨h, ‹_›⟩
          · exact .inr (.inr h)
      · rcases List.mem_cons.1 h with h | h
        · exact .inr (.inl h)
        · rcases ih h with h | h
          · exact .inl h
          · exact .inr (.inr h)

/-- A write keeps the canonical form. -/
theorem Memory.write_wf {m : Memory} (hm : m.wf) {a : Nat} (ha : a < 65536) (v : Byte) : (m.write a v).wf := by
  induction m with
  | nil =>
    rw [Memory.write_nil]
    split
    · exact Memory.wf_nil
    · exact Memory.wf_cons.2 ⟨⟨by simp, ha, ‹_›⟩, Memory.wf_nil⟩
  | cons d m ih =>
    obtain ⟨b, w⟩ := d
    obtain ⟨⟨hlt, hb, hw⟩, hwf⟩ := Memory.wf_cons.1 hm
    rw [Memory.write_cons]
    split
    · split
      · exact hm
      · refine Memory.wf_cons.2 ⟨⟨fun c hc => ?_, ha, ‹_›⟩, hm⟩
        rcases List.mem_cons.1 hc with rfl | hc
        · assumption
        · have := hlt c hc
          omega
    · split
      · split
        · exact hwf
        · subst a
          exact Memory.wf_cons.2 ⟨⟨hlt, hb, ‹_›⟩, hwf⟩
      · refine Memory.wf_cons.2 ⟨⟨fun c hc => ?_, hb, hw⟩, ih hwf⟩
        rcases Memory.mem_write hc with ⟨rfl, -⟩ | hc
        · simp only
          omega
        · exact hlt c hc

/-- A write leaves every other address as it was, of any memory. -/
theorem Memory.read_write_other (m : Memory) (v : Byte) {a b : Nat} (h : b ≠ a) : (m.write a v).read b = m.read b := by
  induction m with
  | nil =>
    rw [Memory.write_nil]
    split
    · rfl
    · rw [Memory.read_cons, if_neg h.symm]
  | cons d m ih =>
    obtain ⟨e, w⟩ := d
    rw [Memory.write_cons]
    split
    · split
      · rfl
      · rw [Memory.read_cons, if_neg h.symm]
    · split
      · subst a
        split
        · rw [Memory.read_cons, if_neg h.symm]
        · rw [Memory.read_cons, Memory.read_cons, if_neg h.symm, if_neg h.symm]
      · rw [Memory.read_cons, Memory.read_cons, ih]

/-- A byte read where it was just written, of a memory in canonical form. -/
theorem Memory.read_write_same {m : Memory} (hm : m.wf) (a : Nat) (v : Byte) : (m.write a v).read a = v := by
  induction m with
  | nil =>
    rw [Memory.write_nil]
    split
    · exact (‹v = unlisted›).symm
    · rw [Memory.read_cons, if_pos rfl]
  | cons d m ih =>
    obtain ⟨e, w⟩ := d
    obtain ⟨⟨hlt, -, -⟩, hwf⟩ := Memory.wf_cons.1 hm
    have hbelow : ∀ x, x ≤ e → Memory.read m x = unlisted := fun x hx => Memory.read_below fun c hc => by
      have := hlt c hc
      omega
    rw [Memory.write_cons]
    split
    · split
      · rw [Memory.read_cons, if_neg (by omega), hbelow a (by omega)]
        exact (‹v = unlisted›).symm
      · rw [Memory.read_cons, if_pos rfl]
    · split
      · subst a
        split
        · rw [hbelow e (Nat.le_refl e)]
          exact (‹v = unlisted›).symm
        · rw [Memory.read_cons, if_pos rfl]
      · rw [Memory.read_cons, if_neg (by omega), ih hwf]

/-- Reading after a write, of a memory in canonical form: the written byte at its address, the old byte elsewhere. -/
theorem Memory.read_write {m : Memory} (hm : m.wf) (a : Nat) (v : Byte) (b : Nat) :
    (m.write a v).read b = if b = a then v else m.read b := by
  split
  · subst b
    exact Memory.read_write_same hm a v
  · exact Memory.read_write_other m v ‹_›

end Sys2Proof.Machine
end

