-- ==== Sys2Proof/Laws/State.lean ====
section
/-! SUPPORT. What each named update of State does to each field, one lemma per field per update, so that no later proof
unfolds a record update. -/

namespace Sys2Proof.Machine

variable (s : State)

@[simp] theorem State.setA_a (v : Byte) : (s.setA v).a = v := rfl
@[simp] theorem State.setA_x (v : Byte) : (s.setA v).x = s.x := rfl
@[simp] theorem State.setA_y (v : Byte) : (s.setA v).y = s.y := rfl
@[simp] theorem State.setA_sp (v : Byte) : (s.setA v).sp = s.sp := rfl
@[simp] theorem State.setA_pc (v : Byte) : (s.setA v).pc = s.pc := rfl
@[simp] theorem State.setA_p (v : Byte) : (s.setA v).p = s.p := rfl
@[simp] theorem State.setA_halted (v : Byte) : (s.setA v).halted = s.halted := rfl
@[simp] theorem State.setA_nmiPending (v : Byte) : (s.setA v).nmiPending = s.nmiPending := rfl
@[simp] theorem State.setA_mem (v : Byte) : (s.setA v).mem = s.mem := rfl
@[simp] theorem State.setA_map (v : Byte) : (s.setA v).map = s.map := rfl
@[simp] theorem State.setA_inputs (v : Byte) : (s.setA v).inputs = s.inputs := rfl
@[simp] theorem State.setA_draws (v : Byte) : (s.setA v).draws = s.draws := rfl
@[simp] theorem State.setA_events (v : Byte) : (s.setA v).events = s.events := rfl
@[simp] theorem State.setA_cycles (v : Byte) : (s.setA v).cycles = s.cycles := rfl

@[simp] theorem State.setX_a (v : Byte) : (s.setX v).a = s.a := rfl
@[simp] theorem State.setX_x (v : Byte) : (s.setX v).x = v := rfl
@[simp] theorem State.setX_y (v : Byte) : (s.setX v).y = s.y := rfl
@[simp] theorem State.setX_sp (v : Byte) : (s.setX v).sp = s.sp := rfl
@[simp] theorem State.setX_pc (v : Byte) : (s.setX v).pc = s.pc := rfl
@[simp] theorem State.setX_p (v : Byte) : (s.setX v).p = s.p := rfl
@[simp] theorem State.setX_halted (v : Byte) : (s.setX v).halted = s.halted := rfl
@[simp] theorem State.setX_nmiPending (v : Byte) : (s.setX v).nmiPending = s.nmiPending := rfl
@[simp] theorem State.setX_mem (v : Byte) : (s.setX v).mem = s.mem := rfl
@[simp] theorem State.setX_map (v : Byte) : (s.setX v).map = s.map := rfl
@[simp] theorem State.setX_inputs (v : Byte) : (s.setX v).inputs = s.inputs := rfl
@[simp] theorem State.setX_draws (v : Byte) : (s.setX v).draws = s.draws := rfl
@[simp] theorem State.setX_events (v : Byte) : (s.setX v).events = s.events := rfl
@[simp] theorem State.setX_cycles (v : Byte) : (s.setX v).cycles = s.cycles := rfl

@[simp] theorem State.setY_a (v : Byte) : (s.setY v).a = s.a := rfl
@[simp] theorem State.setY_x (v : Byte) : (s.setY v).x = s.x := rfl
@[simp] theorem State.setY_y (v : Byte) : (s.setY v).y = v := rfl
@[simp] theorem State.setY_sp (v : Byte) : (s.setY v).sp = s.sp := rfl
@[simp] theorem State.setY_pc (v : Byte) : (s.setY v).pc = s.pc := rfl
@[simp] theorem State.setY_p (v : Byte) : (s.setY v).p = s.p := rfl
@[simp] theorem State.setY_halted (v : Byte) : (s.setY v).halted = s.halted := rfl
@[simp] theorem State.setY_nmiPending (v : Byte) : (s.setY v).nmiPending = s.nmiPending := rfl
@[simp] theorem State.setY_mem (v : Byte) : (s.setY v).mem = s.mem := rfl
@[simp] theorem State.setY_map (v : Byte) : (s.setY v).map = s.map := rfl
@[simp] theorem State.setY_inputs (v : Byte) : (s.setY v).inputs = s.inputs := rfl
@[simp] theorem State.setY_draws (v : Byte) : (s.setY v).draws = s.draws := rfl
@[simp] theorem State.setY_events (v : Byte) : (s.setY v).events = s.events := rfl
@[simp] theorem State.setY_cycles (v : Byte) : (s.setY v).cycles = s.cycles := rfl

@[simp] theorem State.setSp_a (v : Byte) : (s.setSp v).a = s.a := rfl
@[simp] theorem State.setSp_x (v : Byte) : (s.setSp v).x = s.x := rfl
@[simp] theorem State.setSp_y (v : Byte) : (s.setSp v).y = s.y := rfl
@[simp] theorem State.setSp_sp (v : Byte) : (s.setSp v).sp = v := rfl
@[simp] theorem State.setSp_pc (v : Byte) : (s.setSp v).pc = s.pc := rfl
@[simp] theorem State.setSp_p (v : Byte) : (s.setSp v).p = s.p := rfl
@[simp] theorem State.setSp_halted (v : Byte) : (s.setSp v).halted = s.halted := rfl
@[simp] theorem State.setSp_nmiPending (v : Byte) : (s.setSp v).nmiPending = s.nmiPending := rfl
@[simp] theorem State.setSp_mem (v : Byte) : (s.setSp v).mem = s.mem := rfl
@[simp] theorem State.setSp_map (v : Byte) : (s.setSp v).map = s.map := rfl
@[simp] theorem State.setSp_inputs (v : Byte) : (s.setSp v).inputs = s.inputs := rfl
@[simp] theorem State.setSp_draws (v : Byte) : (s.setSp v).draws = s.draws := rfl
@[simp] theorem State.setSp_events (v : Byte) : (s.setSp v).events = s.events := rfl
@[simp] theorem State.setSp_cycles (v : Byte) : (s.setSp v).cycles = s.cycles := rfl

@[simp] theorem State.setPc_a (v : Word) : (s.setPc v).a = s.a := rfl
@[simp] theorem State.setPc_x (v : Word) : (s.setPc v).x = s.x := rfl
@[simp] theorem State.setPc_y (v : Word) : (s.setPc v).y = s.y := rfl
@[simp] theorem State.setPc_sp (v : Word) : (s.setPc v).sp = s.sp := rfl
@[simp] theorem State.setPc_pc (v : Word) : (s.setPc v).pc = v := rfl
@[simp] theorem State.setPc_p (v : Word) : (s.setPc v).p = s.p := rfl
@[simp] theorem State.setPc_halted (v : Word) : (s.setPc v).halted = s.halted := rfl
@[simp] theorem State.setPc_nmiPending (v : Word) : (s.setPc v).nmiPending = s.nmiPending := rfl
@[simp] theorem State.setPc_mem (v : Word) : (s.setPc v).mem = s.mem := rfl
@[simp] theorem State.setPc_map (v : Word) : (s.setPc v).map = s.map := rfl
@[simp] theorem State.setPc_inputs (v : Word) : (s.setPc v).inputs = s.inputs := rfl
@[simp] theorem State.setPc_draws (v : Word) : (s.setPc v).draws = s.draws := rfl
@[simp] theorem State.setPc_events (v : Word) : (s.setPc v).events = s.events := rfl
@[simp] theorem State.setPc_cycles (v : Word) : (s.setPc v).cycles = s.cycles := rfl

@[simp] theorem State.setP_a (v : Status) : (s.setP v).a = s.a := rfl
@[simp] theorem State.setP_x (v : Status) : (s.setP v).x = s.x := rfl
@[simp] theorem State.setP_y (v : Status) : (s.setP v).y = s.y := rfl
@[simp] theorem State.setP_sp (v : Status) : (s.setP v).sp = s.sp := rfl
@[simp] theorem State.setP_pc (v : Status) : (s.setP v).pc = s.pc := rfl
@[simp] theorem State.setP_p (v : Status) : (s.setP v).p = v := rfl
@[simp] theorem State.setP_halted (v : Status) : (s.setP v).halted = s.halted := rfl
@[simp] theorem State.setP_nmiPending (v : Status) : (s.setP v).nmiPending = s.nmiPending := rfl
@[simp] theorem State.setP_mem (v : Status) : (s.setP v).mem = s.mem := rfl
@[simp] theorem State.setP_map (v : Status) : (s.setP v).map = s.map := rfl
@[simp] theorem State.setP_inputs (v : Status) : (s.setP v).inputs = s.inputs := rfl
@[simp] theorem State.setP_draws (v : Status) : (s.setP v).draws = s.draws := rfl
@[simp] theorem State.setP_events (v : Status) : (s.setP v).events = s.events := rfl
@[simp] theorem State.setP_cycles (v : Status) : (s.setP v).cycles = s.cycles := rfl

@[simp] theorem State.setNZ_a (v : Byte) : (s.setNZ v).a = s.a := rfl
@[simp] theorem State.setNZ_x (v : Byte) : (s.setNZ v).x = s.x := rfl
@[simp] theorem State.setNZ_y (v : Byte) : (s.setNZ v).y = s.y := rfl
@[simp] theorem State.setNZ_sp (v : Byte) : (s.setNZ v).sp = s.sp := rfl
@[simp] theorem State.setNZ_pc (v : Byte) : (s.setNZ v).pc = s.pc := rfl
@[simp] theorem State.setNZ_p (v : Byte) : (s.setNZ v).p = s.p.setNZ v := rfl
@[simp] theorem State.setNZ_halted (v : Byte) : (s.setNZ v).halted = s.halted := rfl
@[simp] theorem State.setNZ_nmiPending (v : Byte) : (s.setNZ v).nmiPending = s.nmiPending := rfl
@[simp] theorem State.setNZ_mem (v : Byte) : (s.setNZ v).mem = s.mem := rfl
@[simp] theorem State.setNZ_map (v : Byte) : (s.setNZ v).map = s.map := rfl
@[simp] theorem State.setNZ_inputs (v : Byte) : (s.setNZ v).inputs = s.inputs := rfl
@[simp] theorem State.setNZ_draws (v : Byte) : (s.setNZ v).draws = s.draws := rfl
@[simp] theorem State.setNZ_events (v : Byte) : (s.setNZ v).events = s.events := rfl
@[simp] theorem State.setNZ_cycles (v : Byte) : (s.setNZ v).cycles = s.cycles := rfl

@[simp] theorem State.setC_a (b : Bool) : (s.setC b).a = s.a := rfl
@[simp] theorem State.setC_x (b : Bool) : (s.setC b).x = s.x := rfl
@[simp] theorem State.setC_y (b : Bool) : (s.setC b).y = s.y := rfl
@[simp] theorem State.setC_sp (b : Bool) : (s.setC b).sp = s.sp := rfl
@[simp] theorem State.setC_pc (b : Bool) : (s.setC b).pc = s.pc := rfl
@[simp] theorem State.setC_p (b : Bool) : (s.setC b).p = { s.p with c := b } := rfl
@[simp] theorem State.setC_halted (b : Bool) : (s.setC b).halted = s.halted := rfl
@[simp] theorem State.setC_nmiPending (b : Bool) : (s.setC b).nmiPending = s.nmiPending := rfl
@[simp] theorem State.setC_mem (b : Bool) : (s.setC b).mem = s.mem := rfl
@[simp] theorem State.setC_map (b : Bool) : (s.setC b).map = s.map := rfl
@[simp] theorem State.setC_inputs (b : Bool) : (s.setC b).inputs = s.inputs := rfl
@[simp] theorem State.setC_draws (b : Bool) : (s.setC b).draws = s.draws := rfl
@[simp] theorem State.setC_events (b : Bool) : (s.setC b).events = s.events := rfl
@[simp] theorem State.setC_cycles (b : Bool) : (s.setC b).cycles = s.cycles := rfl

@[simp] theorem State.tick_a (n : Nat) : (s.tick n).a = s.a := rfl
@[simp] theorem State.tick_x (n : Nat) : (s.tick n).x = s.x := rfl
@[simp] theorem State.tick_y (n : Nat) : (s.tick n).y = s.y := rfl
@[simp] theorem State.tick_sp (n : Nat) : (s.tick n).sp = s.sp := rfl
@[simp] theorem State.tick_pc (n : Nat) : (s.tick n).pc = s.pc := rfl
@[simp] theorem State.tick_p (n : Nat) : (s.tick n).p = s.p := rfl
@[simp] theorem State.tick_halted (n : Nat) : (s.tick n).halted = s.halted := rfl
@[simp] theorem State.tick_nmiPending (n : Nat) : (s.tick n).nmiPending = s.nmiPending := rfl
@[simp] theorem State.tick_mem (n : Nat) : (s.tick n).mem = s.mem := rfl
@[simp] theorem State.tick_map (n : Nat) : (s.tick n).map = s.map := rfl
@[simp] theorem State.tick_inputs (n : Nat) : (s.tick n).inputs = s.inputs := rfl
@[simp] theorem State.tick_draws (n : Nat) : (s.tick n).draws = s.draws := rfl
@[simp] theorem State.tick_events (n : Nat) : (s.tick n).events = s.events := rfl
@[simp] theorem State.tick_cycles (n : Nat) : (s.tick n).cycles = s.cycles + n := rfl

@[simp] theorem State.finish_a (l n : Nat) : (s.finish l n).a = s.a := rfl
@[simp] theorem State.finish_x (l n : Nat) : (s.finish l n).x = s.x := rfl
@[simp] theorem State.finish_y (l n : Nat) : (s.finish l n).y = s.y := rfl
@[simp] theorem State.finish_sp (l n : Nat) : (s.finish l n).sp = s.sp := rfl
@[simp] theorem State.finish_pc (l n : Nat) : (s.finish l n).pc = s.pc + BitVec.ofNat 16 l := rfl
@[simp] theorem State.finish_p (l n : Nat) : (s.finish l n).p = s.p := rfl
@[simp] theorem State.finish_halted (l n : Nat) : (s.finish l n).halted = s.halted := rfl
@[simp] theorem State.finish_nmiPending (l n : Nat) : (s.finish l n).nmiPending = s.nmiPending := rfl
@[simp] theorem State.finish_mem (l n : Nat) : (s.finish l n).mem = s.mem := rfl
@[simp] theorem State.finish_map (l n : Nat) : (s.finish l n).map = s.map := rfl
@[simp] theorem State.finish_inputs (l n : Nat) : (s.finish l n).inputs = s.inputs := rfl
@[simp] theorem State.finish_draws (l n : Nat) : (s.finish l n).draws = s.draws := rfl
@[simp] theorem State.finish_events (l n : Nat) : (s.finish l n).events = s.events := rfl
@[simp] theorem State.finish_cycles (l n : Nat) : (s.finish l n).cycles = s.cycles + n := rfl

@[simp] theorem Status.setNZ_n (p : Status) (v : Byte) : (p.setNZ v).n = v.getLsbD 7 := rfl
@[simp] theorem Status.setNZ_z (p : Status) (v : Byte) : (p.setNZ v).z = (v == 0x00#8) := rfl
@[simp] theorem Status.setNZ_v (p : Status) (v : Byte) : (p.setNZ v).v = p.v := rfl
@[simp] theorem Status.setNZ_d (p : Status) (v : Byte) : (p.setNZ v).d = p.d := rfl
@[simp] theorem Status.setNZ_i (p : Status) (v : Byte) : (p.setNZ v).i = p.i := rfl
@[simp] theorem Status.setNZ_c (p : Status) (v : Byte) : (p.setNZ v).c = p.c := rfl

end Sys2Proof.Machine
end

