-- ==== Sys2Proof/Laws/Ops.lean ====
section
/-! SUPPORT. What each shared operation of Ops can do, said once: a read changes only the model's own fields, a write only
memory and the events, and what a push, a pull, an interrupt entry, a return and a reset leave. -/

namespace Sys2Proof.Machine

/-- `t` is `s` after reads alone: only the count of free values and the device events may differ. -/
def ReadOnly (s t : State) : Prop := t = { s with draws := t.draws, events := t.events }

theorem ReadOnly.refl (s : State) : ReadOnly s s := rfl

theorem ReadOnly.trans {s t u : State} (h : ReadOnly s t) (h' : ReadOnly t u) : ReadOnly s u := by
  unfold ReadOnly at *
  rw [h', h]

theorem ReadOnly.a {s t : State} (h : ReadOnly s t) : t.a = s.a := by rw [h]
theorem ReadOnly.x {s t : State} (h : ReadOnly s t) : t.x = s.x := by rw [h]
theorem ReadOnly.y {s t : State} (h : ReadOnly s t) : t.y = s.y := by rw [h]
theorem ReadOnly.sp {s t : State} (h : ReadOnly s t) : t.sp = s.sp := by rw [h]
theorem ReadOnly.pc {s t : State} (h : ReadOnly s t) : t.pc = s.pc := by rw [h]
theorem ReadOnly.p {s t : State} (h : ReadOnly s t) : t.p = s.p := by rw [h]
theorem ReadOnly.halted {s t : State} (h : ReadOnly s t) : t.halted = s.halted := by rw [h]
theorem ReadOnly.nmiPending {s t : State} (h : ReadOnly s t) : t.nmiPending = s.nmiPending := by rw [h]
theorem ReadOnly.mem {s t : State} (h : ReadOnly s t) : t.mem = s.mem := by rw [h]
theorem ReadOnly.map {s t : State} (h : ReadOnly s t) : t.map = s.map := by rw [h]
theorem ReadOnly.inputs {s t : State} (h : ReadOnly s t) : t.inputs = s.inputs := by rw [h]
theorem ReadOnly.cycles {s t : State} (h : ReadOnly s t) : t.cycles = s.cycles := by rw [h]

/-! ### Reads -/

theorem busRead_readOnly (addr : Word) (s : State) : ReadOnly s (s.busRead addr).2 := by
  unfold State.busRead
  split <;> rfl

/-- A read of RAM or ROM gives the stored byte and changes nothing (R41). -/
theorem busRead_stored {s : State} {addr : Word} (h : s.stored addr) :
    s.busRead addr = (s.mem.read addr.toNat, s) := by
  unfold State.busRead
  rcases h with h | h <;> rw [h]

theorem readPair_readOnly (lo hi : Word) (s : State) : ReadOnly s (s.readPair lo hi).2 :=
  (busRead_readOnly lo s).trans (busRead_readOnly hi _)

/-- Two reads of RAM or ROM give the stored bytes as a word and change nothing (R43). -/
theorem readPair_stored {s : State} {lo hi : Word} (hl : s.stored lo) (hh : s.stored hi) :
    s.readPair lo hi = (word (s.mem.read hi.toNat) (s.mem.read lo.toNat), s) := by
  simp only [State.readPair, busRead_stored hl, busRead_stored hh]

theorem readWord_readOnly (addr : Word) (s : State) : ReadOnly s (s.readWord addr).2 :=
  readPair_readOnly addr (addr + 1) s

theorem drawByte_readOnly (s : State) : ReadOnly s s.drawByte.2 := rfl

/-! ### Writes -/

/-- A write changes at most memory and the device events. -/
theorem busWrite_eq (addr : Word) (v : Byte) (s : State) :
    s.busWrite addr v = { s with mem := (s.busWrite addr v).mem, events := (s.busWrite addr v).events } := by
  unfold State.busWrite
  split <;> rfl

/-- A write to RAM stores the byte (R41). -/
theorem busWrite_ram {s : State} {addr : Word} (h : kindAt s.map addr = .ram) (v : Byte) :
    s.busWrite addr v = { s with mem := s.mem.write addr.toNat v } := by
  unfold State.busWrite
  rw [h]

/-- A write anywhere but to RAM leaves memory alone (R41; 93, UNMAPPED_MEMORY). -/
theorem busWrite_mem_of_not_ram {s : State} {addr : Word} (h : kindAt s.map addr ≠ .ram) (v : Byte) :
    (s.busWrite addr v).mem = s.mem := by
  unfold State.busWrite
  split
  · contradiction
  all_goals rfl

@[simp] theorem busWrite_a (addr : Word) (v : Byte) (s : State) : (s.busWrite addr v).a = s.a := by
  rw [busWrite_eq]
@[simp] theorem busWrite_x (addr : Word) (v : Byte) (s : State) : (s.busWrite addr v).x = s.x := by
  rw [busWrite_eq]
@[simp] theorem busWrite_y (addr : Word) (v : Byte) (s : State) : (s.busWrite addr v).y = s.y := by
  rw [busWrite_eq]
@[simp] theorem busWrite_sp (addr : Word) (v : Byte) (s : State) : (s.busWrite addr v).sp = s.sp := by
  rw [busWrite_eq]
@[simp] theorem busWrite_pc (addr : Word) (v : Byte) (s : State) : (s.busWrite addr v).pc = s.pc := by
  rw [busWrite_eq]
@[simp] theorem busWrite_p (addr : Word) (v : Byte) (s : State) : (s.busWrite addr v).p = s.p := by
  rw [busWrite_eq]
@[simp] theorem busWrite_halted (addr : Word) (v : Byte) (s : State) : (s.busWrite addr v).halted = s.halted := by
  rw [busWrite_eq]
@[simp] theorem busWrite_nmiPending (addr : Word) (v : Byte) (s : State) : (s.busWrite addr v).nmiPending = s.nmiPending := by
  rw [busWrite_eq]
@[simp] theorem busWrite_map (addr : Word) (v : Byte) (s : State) : (s.busWrite addr v).map = s.map := by
  rw [busWrite_eq]
@[simp] theorem busWrite_inputs (addr : Word) (v : Byte) (s : State) : (s.busWrite addr v).inputs = s.inputs := by
  rw [busWrite_eq]
@[simp] theorem busWrite_draws (addr : Word) (v : Byte) (s : State) : (s.busWrite addr v).draws = s.draws := by
  rw [busWrite_eq]
@[simp] theorem busWrite_cycles (addr : Word) (v : Byte) (s : State) : (s.busWrite addr v).cycles = s.cycles := by
  rw [busWrite_eq]

/-- A write leaves every byte at another address as it was. -/
theorem busWrite_read_other (addr : Word) (v : Byte) (s : State) {a : Nat} (h : a ≠ addr.toNat) :
    (s.busWrite addr v).mem.read a = s.mem.read a := by
  by_cases hk : kindAt s.map addr = .ram
  · rw [busWrite_ram hk]
    exact Memory.read_write_other s.mem v h
  · rw [busWrite_mem_of_not_ram hk]

/-- A write keeps the canonical form of memory. -/
theorem busWrite_wf (addr : Word) (v : Byte) {s : State} (h : s.wf) : (s.busWrite addr v).wf := by
  unfold State.wf at *
  by_cases hk : kindAt s.map addr = .ram
  · rw [busWrite_ram hk]
    exact Memory.write_wf h addr.isLt v
  · rw [busWrite_mem_of_not_ram hk]
    exact h

/-! ### Stack -/

theorem push_eq (v : Byte) (s : State) :
    s.push v = (s.busWrite (stackAddress s.sp) v).setSp (s.sp - 1) := by
  simp only [State.push, busWrite_sp]

@[simp] theorem push_a (v : Byte) (s : State) : (s.push v).a = s.a := by
  simp [push_eq]
@[simp] theorem push_x (v : Byte) (s : State) : (s.push v).x = s.x := by
  simp [push_eq]
@[simp] theorem push_y (v : Byte) (s : State) : (s.push v).y = s.y := by
  simp [push_eq]
@[simp] theorem push_sp (v : Byte) (s : State) : (s.push v).sp = s.sp - 1 := by
  simp [push_eq]
@[simp] theorem push_pc (v : Byte) (s : State) : (s.push v).pc = s.pc := by
  simp [push_eq]
@[simp] theorem push_p (v : Byte) (s : State) : (s.push v).p = s.p := by
  simp [push_eq]
@[simp] theorem push_halted (v : Byte) (s : State) : (s.push v).halted = s.halted := by
  simp [push_eq]
@[simp] theorem push_nmiPending (v : Byte) (s : State) : (s.push v).nmiPending = s.nmiPending := by
  simp [push_eq]
@[simp] theorem push_map (v : Byte) (s : State) : (s.push v).map = s.map := by
  simp [push_eq]
@[simp] theorem push_inputs (v : Byte) (s : State) : (s.push v).inputs = s.inputs := by
  simp [push_eq]
@[simp] theorem push_draws (v : Byte) (s : State) : (s.push v).draws = s.draws := by
  simp [push_eq]
@[simp] theorem push_cycles (v : Byte) (s : State) : (s.push v).cycles = s.cycles := by
  simp [push_eq]

theorem push_mem (v : Byte) (s : State) : (s.push v).mem = (s.busWrite (stackAddress s.sp) v).mem := rfl

theorem push_wf (v : Byte) {s : State} (h : s.wf) : (s.push v).wf := busWrite_wf _ v h

/-- A pull only increments S and reads. -/
theorem pull_readOnly (s : State) : ReadOnly (s.setSp (s.sp + 1)) s.pull.2 := busRead_readOnly _ _

/-- A pull from RAM or ROM gives the stored byte (R117). -/
theorem pull_stored {s : State} (h : s.stored (stackAddress (s.sp + 1))) :
    s.pull = (s.mem.read (stackAddress (s.sp + 1)).toNat, s.setSp (s.sp + 1)) :=
  busRead_stored (s := s.setSp (s.sp + 1)) h

/-- Pulling a word only adds 2 to S and reads. -/
theorem pullWord_readOnly (s : State) : ReadOnly (s.setSp (s.sp + 2)) s.pullWord.2 := by
  have h1 := pull_readOnly s
  have h2 := pull_readOnly s.pull.2
  have h : ReadOnly (s.setSp (s.sp + 2)) (s.pull.2.setSp (s.pull.2.sp + 1)) := by
    unfold ReadOnly at *
    rw [h1]
    simp [State.setSp, BitVec.add_assoc]
  exact h.trans h2

@[simp] theorem pushWord_a (w : Word) (s : State) : (s.pushWord w).a = s.a := by
  simp [State.pushWord]
@[simp] theorem pushWord_x (w : Word) (s : State) : (s.pushWord w).x = s.x := by
  simp [State.pushWord]
@[simp] theorem pushWord_y (w : Word) (s : State) : (s.pushWord w).y = s.y := by
  simp [State.pushWord]
@[simp] theorem pushWord_sp (w : Word) (s : State) : (s.pushWord w).sp = s.sp - 2 := by
  simp [State.pushWord, BitVec.sub_sub]
@[simp] theorem pushWord_pc (w : Word) (s : State) : (s.pushWord w).pc = s.pc := by
  simp [State.pushWord]
@[simp] theorem pushWord_p (w : Word) (s : State) : (s.pushWord w).p = s.p := by
  simp [State.pushWord]
@[simp] theorem pushWord_halted (w : Word) (s : State) : (s.pushWord w).halted = s.halted := by
  simp [State.pushWord]
@[simp] theorem pushWord_nmiPending (w : Word) (s : State) : (s.pushWord w).nmiPending = s.nmiPending := by
  simp [State.pushWord]
@[simp] theorem pushWord_map (w : Word) (s : State) : (s.pushWord w).map = s.map := by
  simp [State.pushWord]
@[simp] theorem pushWord_inputs (w : Word) (s : State) : (s.pushWord w).inputs = s.inputs := by
  simp [State.pushWord]
@[simp] theorem pushWord_draws (w : Word) (s : State) : (s.pushWord w).draws = s.draws := by
  simp [State.pushWord]
@[simp] theorem pushWord_cycles (w : Word) (s : State) : (s.pushWord w).cycles = s.cycles := by
  simp [State.pushWord]

theorem pushWord_wf (w : Word) {s : State} (h : s.wf) : (s.pushWord w).wf := push_wf _ (push_wf _ h)

/-! ### Interrupts and reset -/

/-- The three pushes of an interrupt entry, before I is set and the vector is read. -/
theorem interruptSequence_eq (ret : Word) (b : Bool) (vector : Word) (s : State) :
    ∃ t, ReadOnly (((s.pushWord ret).push (s.p.toByte b)).setP { s.p with i := true }) t ∧
      s.interruptSequence ret b vector = (t.setPc (State.readWord vector
        (((s.pushWord ret).push (s.p.toByte b)).setP { s.p with i := true })).1).tick 7 := by
  refine ⟨(State.readWord vector (((s.pushWord ret).push (s.p.toByte b)).setP { s.p with i := true })).2,
    readWord_readOnly _ _, ?_⟩
  simp [State.interruptSequence]

@[simp] theorem interruptSequence_a (ret : Word) (b : Bool) (vector : Word) (s : State) :
    (s.interruptSequence ret b vector).a = s.a := by
  obtain ⟨t, ht, he⟩ := interruptSequence_eq ret b vector s
  rw [he]
  simp [ht.a]
@[simp] theorem interruptSequence_x (ret : Word) (b : Bool) (vector : Word) (s : State) :
    (s.interruptSequence ret b vector).x = s.x := by
  obtain ⟨t, ht, he⟩ := interruptSequence_eq ret b vector s
  rw [he]
  simp [ht.x]
@[simp] theorem interruptSequence_y (ret : Word) (b : Bool) (vector : Word) (s : State) :
    (s.interruptSequence ret b vector).y = s.y := by
  obtain ⟨t, ht, he⟩ := interruptSequence_eq ret b vector s
  rw [he]
  simp [ht.y]
@[simp] theorem interruptSequence_sp (ret : Word) (b : Bool) (vector : Word) (s : State) :
    (s.interruptSequence ret b vector).sp = s.sp - 3 := by
  obtain ⟨t, ht, he⟩ := interruptSequence_eq ret b vector s
  rw [he]
  simp [ht.sp, BitVec.sub_sub]
@[simp] theorem interruptSequence_p (ret : Word) (b : Bool) (vector : Word) (s : State) :
    (s.interruptSequence ret b vector).p = { s.p with i := true } := by
  obtain ⟨t, ht, he⟩ := interruptSequence_eq ret b vector s
  rw [he]
  simp [ht.p]
@[simp] theorem interruptSequence_halted (ret : Word) (b : Bool) (vector : Word) (s : State) :
    (s.interruptSequence ret b vector).halted = s.halted := by
  obtain ⟨t, ht, he⟩ := interruptSequence_eq ret b vector s
  rw [he]
  simp [ht.halted]
@[simp] theorem interruptSequence_nmiPending (ret : Word) (b : Bool) (vector : Word) (s : State) :
    (s.interruptSequence ret b vector).nmiPending = s.nmiPending := by
  obtain ⟨t, ht, he⟩ := interruptSequence_eq ret b vector s
  rw [he]
  simp [ht.nmiPending]
@[simp] theorem interruptSequence_map (ret : Word) (b : Bool) (vector : Word) (s : State) :
    (s.interruptSequence ret b vector).map = s.map := by
  obtain ⟨t, ht, he⟩ := interruptSequence_eq ret b vector s
  rw [he]
  simp [ht.map]
@[simp] theorem interruptSequence_inputs (ret : Word) (b : Bool) (vector : Word) (s : State) :
    (s.interruptSequence ret b vector).inputs = s.inputs := by
  obtain ⟨t, ht, he⟩ := interruptSequence_eq ret b vector s
  rw [he]
  simp [ht.inputs]
@[simp] theorem interruptSequence_cycles (ret : Word) (b : Bool) (vector : Word) (s : State) :
    (s.interruptSequence ret b vector).cycles = s.cycles + 7 := by
  obtain ⟨t, ht, he⟩ := interruptSequence_eq ret b vector s
  rw [he]
  simp [ht.cycles]

theorem interruptSequence_mem (ret : Word) (b : Bool) (vector : Word) (s : State) :
    (s.interruptSequence ret b vector).mem = ((s.pushWord ret).push (s.p.toByte b)).mem := by
  obtain ⟨t, ht, he⟩ := interruptSequence_eq ret b vector s
  rw [he]
  simp [ht.mem]

theorem interruptSequence_wf (ret : Word) (b : Bool) (vector : Word) {s : State} (h : s.wf) :
    (s.interruptSequence ret b vector).wf := by
  unfold State.wf
  rw [interruptSequence_mem]
  exact push_wf _ (pushWord_wf _ h)

/-- A return from interrupt pulls three bytes and changes nothing but S, P and PC, and the model's own fields. -/
theorem returnFromInterrupt_readOnly (s : State) :
    ReadOnly ((((s.setSp (s.sp + 3)).setP s.returnFromInterrupt.p).setPc s.returnFromInterrupt.pc).tick 6)
      s.returnFromInterrupt := by
  have h1 := pull_readOnly s
  have h2 := pullWord_readOnly (s.pull.2.setP (Status.ofByte s.pull.1))
  unfold ReadOnly at *
  simp only [State.returnFromInterrupt]
  rw [h2, h1]
  simp [State.setSp, State.setP, State.setPc, State.tick, BitVec.add_assoc]

/-- A reset changes no memory, and no configuration (R350). -/
theorem resetSequence_readOnly (s : State) :
    ReadOnly ((s.resetRegisters.setPc s.resetSequence.pc).tick 7) s.resetSequence := by
  have h := readWord_readOnly resetVector s.resetRegisters
  unfold ReadOnly at *
  simp only [State.resetSequence]
  rw [h]
  simp [State.setPc, State.tick]

end Sys2Proof.Machine
end

