-- ==== Sys2Proof/Laws/Operands.lean ====
section
/-! SUPPORT. What resolving, reading, storing and modifying an operand can do, said once. -/

namespace Sys2Proof.Machine

/-- Resolving a memory operand only reads. -/
theorem locate_readOnly (m : MemOperand) (s : State) : ReadOnly s (locate m s).after := by
  cases m
  case izx b => exact readPair_readOnly _ _ s
  case izy b => exact readPair_readOnly _ _ s
  all_goals exact ReadOnly.refl s

/-- Reading an operand only reads. -/
theorem fetchSource_readOnly (src : Source) (s : State) : ReadOnly s (fetchSource src s).after := by
  cases src with
  | imm d => exact ReadOnly.refl s
  | mem m => exact (locate_readOnly m s).trans (busRead_readOnly _ _)

theorem readIndirect_readOnly (ptr : Word) (s : State) : ReadOnly s (readIndirect ptr s).2 :=
  readPair_readOnly _ _ s

/-- A store writes one byte, at EA, after the reads of the mode. -/
theorem storeTo_eq (m : MemOperand) (v : Byte) (s : State) :
    storeTo m v s = (locate m s).after.busWrite (locate m s).ea v := rfl

/-- A store of a register leaves every byte but the one at EA as it was. -/
theorem storeTo_read_other (m : MemOperand) (v : Byte) (s : State) {a : Nat} (h : a ≠ (locate m s).ea.toNat) :
    (storeTo m v s).mem.read a = s.mem.read a := by
  rw [storeTo_eq, busWrite_read_other _ _ _ h, (locate_readOnly m s).mem]

theorem storeTo_wf (m : MemOperand) (v : Byte) {s : State} (h : s.wf) : (storeTo m v s).wf := by
  refine busWrite_wf _ v ?_
  unfold State.wf
  rw [(locate_readOnly m s).mem]
  exact h

/-- A read/modify/write writes back at EA what it computes from the byte it read there. -/
theorem modify_new (m : MemOperand) (f : Byte → Byte) (s : State) : (modify m f s).new = f (modify m f s).old := rfl

/-- A read/modify/write is one read and one write of EA, after the reads of the mode. -/
theorem modify_after (m : MemOperand) (f : Byte → Byte) (s : State) :
    ∃ t, ReadOnly s t ∧ (modify m f s).after = t.busWrite (locate m s).ea (modify m f s).new :=
  ⟨_, (locate_readOnly m s).trans (busRead_readOnly _ _), rfl⟩

/-- A read/modify/write leaves every byte but the one at EA as it was. -/
theorem modify_read_other (m : MemOperand) (f : Byte → Byte) (s : State) {a : Nat}
    (h : a ≠ (locate m s).ea.toNat) : (modify m f s).after.mem.read a = s.mem.read a := by
  obtain ⟨t, ht, he⟩ := modify_after m f s
  rw [he, busWrite_read_other _ _ _ h, ht.mem]

theorem modify_wf (m : MemOperand) (f : Byte → Byte) {s : State} (h : s.wf) : (modify m f s).after.wf := by
  obtain ⟨t, ht, he⟩ := modify_after m f s
  rw [he]
  refine busWrite_wf _ _ ?_
  unfold State.wf
  rw [ht.mem]
  exact h

/-! ### What a store and a read/modify/write leave alone -/

@[simp] theorem storeTo_a (m : MemOperand) (v : Byte) (s : State) : (storeTo m v s).a = s.a := by
  rw [storeTo_eq, busWrite_a, (locate_readOnly m s).a]
@[simp] theorem storeTo_x (m : MemOperand) (v : Byte) (s : State) : (storeTo m v s).x = s.x := by
  rw [storeTo_eq, busWrite_x, (locate_readOnly m s).x]
@[simp] theorem storeTo_y (m : MemOperand) (v : Byte) (s : State) : (storeTo m v s).y = s.y := by
  rw [storeTo_eq, busWrite_y, (locate_readOnly m s).y]
@[simp] theorem storeTo_sp (m : MemOperand) (v : Byte) (s : State) : (storeTo m v s).sp = s.sp := by
  rw [storeTo_eq, busWrite_sp, (locate_readOnly m s).sp]
@[simp] theorem storeTo_pc (m : MemOperand) (v : Byte) (s : State) : (storeTo m v s).pc = s.pc := by
  rw [storeTo_eq, busWrite_pc, (locate_readOnly m s).pc]
@[simp] theorem storeTo_p (m : MemOperand) (v : Byte) (s : State) : (storeTo m v s).p = s.p := by
  rw [storeTo_eq, busWrite_p, (locate_readOnly m s).p]
@[simp] theorem storeTo_halted (m : MemOperand) (v : Byte) (s : State) : (storeTo m v s).halted = s.halted := by
  rw [storeTo_eq, busWrite_halted, (locate_readOnly m s).halted]
@[simp] theorem storeTo_nmiPending (m : MemOperand) (v : Byte) (s : State) : (storeTo m v s).nmiPending = s.nmiPending := by
  rw [storeTo_eq, busWrite_nmiPending, (locate_readOnly m s).nmiPending]
@[simp] theorem storeTo_map (m : MemOperand) (v : Byte) (s : State) : (storeTo m v s).map = s.map := by
  rw [storeTo_eq, busWrite_map, (locate_readOnly m s).map]
@[simp] theorem storeTo_inputs (m : MemOperand) (v : Byte) (s : State) : (storeTo m v s).inputs = s.inputs := by
  rw [storeTo_eq, busWrite_inputs, (locate_readOnly m s).inputs]
@[simp] theorem storeTo_cycles (m : MemOperand) (v : Byte) (s : State) : (storeTo m v s).cycles = s.cycles := by
  rw [storeTo_eq, busWrite_cycles, (locate_readOnly m s).cycles]

@[simp] theorem modify_a (m : MemOperand) (f : Byte → Byte) (s : State) : (modify m f s).after.a = s.a := by
  obtain ⟨t, ht, he⟩ := modify_after m f s
  rw [he, busWrite_a, ht.a]
@[simp] theorem modify_x (m : MemOperand) (f : Byte → Byte) (s : State) : (modify m f s).after.x = s.x := by
  obtain ⟨t, ht, he⟩ := modify_after m f s
  rw [he, busWrite_x, ht.x]
@[simp] theorem modify_y (m : MemOperand) (f : Byte → Byte) (s : State) : (modify m f s).after.y = s.y := by
  obtain ⟨t, ht, he⟩ := modify_after m f s
  rw [he, busWrite_y, ht.y]
@[simp] theorem modify_sp (m : MemOperand) (f : Byte → Byte) (s : State) : (modify m f s).after.sp = s.sp := by
  obtain ⟨t, ht, he⟩ := modify_after m f s
  rw [he, busWrite_sp, ht.sp]
@[simp] theorem modify_pc (m : MemOperand) (f : Byte → Byte) (s : State) : (modify m f s).after.pc = s.pc := by
  obtain ⟨t, ht, he⟩ := modify_after m f s
  rw [he, busWrite_pc, ht.pc]
@[simp] theorem modify_p (m : MemOperand) (f : Byte → Byte) (s : State) : (modify m f s).after.p = s.p := by
  obtain ⟨t, ht, he⟩ := modify_after m f s
  rw [he, busWrite_p, ht.p]
@[simp] theorem modify_halted (m : MemOperand) (f : Byte → Byte) (s : State) : (modify m f s).after.halted = s.halted := by
  obtain ⟨t, ht, he⟩ := modify_after m f s
  rw [he, busWrite_halted, ht.halted]
@[simp] theorem modify_nmiPending (m : MemOperand) (f : Byte → Byte) (s : State) : (modify m f s).after.nmiPending = s.nmiPending := by
  obtain ⟨t, ht, he⟩ := modify_after m f s
  rw [he, busWrite_nmiPending, ht.nmiPending]
@[simp] theorem modify_map (m : MemOperand) (f : Byte → Byte) (s : State) : (modify m f s).after.map = s.map := by
  obtain ⟨t, ht, he⟩ := modify_after m f s
  rw [he, busWrite_map, ht.map]
@[simp] theorem modify_inputs (m : MemOperand) (f : Byte → Byte) (s : State) : (modify m f s).after.inputs = s.inputs := by
  obtain ⟨t, ht, he⟩ := modify_after m f s
  rw [he, busWrite_inputs, ht.inputs]
@[simp] theorem modify_cycles (m : MemOperand) (f : Byte → Byte) (s : State) : (modify m f s).after.cycles = s.cycles := by
  obtain ⟨t, ht, he⟩ := modify_after m f s
  rw [he, busWrite_cycles, ht.cycles]

end Sys2Proof.Machine
end

