-- ==== Sys2Proof/Laws/PerInstr.lean ====
section
/-! SUPPORT. A family of statements made per instruction: every instruction is a listed form, and its encoding is as
long as its mode says (`30_encoding.md` R70, R76). -/

namespace Sys2Proof.Laws.FormListed

/-- The mnemonic has the operand's mode, and the encoding has the mode's length. -/
def Statement (i : Instr) : Prop := i.wf = true ∧ (encode i).length = Machine.operandLength i.operand

theorem las (w : Word) : Statement (.las w) := ⟨rfl, rfl⟩
theorem laxIzx (b : Byte) : Statement (.laxIzx b) := ⟨rfl, rfl⟩
theorem laxZp (b : Byte) : Statement (.laxZp b) := ⟨rfl, rfl⟩
theorem laxImm (d : Byte) : Statement (.laxImm d) := ⟨rfl, rfl⟩
theorem laxAbs (w : Word) : Statement (.laxAbs w) := ⟨rfl, rfl⟩
theorem laxIzy (b : Byte) : Statement (.laxIzy b) := ⟨rfl, rfl⟩
theorem laxZpy (b : Byte) : Statement (.laxZpy b) := ⟨rfl, rfl⟩
theorem laxAby (w : Word) : Statement (.laxAby w) := ⟨rfl, rfl⟩
theorem ldaIzx (b : Byte) : Statement (.ldaIzx b) := ⟨rfl, rfl⟩
theorem ldaZp (b : Byte) : Statement (.ldaZp b) := ⟨rfl, rfl⟩
theorem ldaImm (d : Byte) : Statement (.ldaImm d) := ⟨rfl, rfl⟩
theorem ldaAbs (w : Word) : Statement (.ldaAbs w) := ⟨rfl, rfl⟩
theorem ldaIzy (b : Byte) : Statement (.ldaIzy b) := ⟨rfl, rfl⟩
theorem ldaZpx (b : Byte) : Statement (.ldaZpx b) := ⟨rfl, rfl⟩
theorem ldaAby (w : Word) : Statement (.ldaAby w) := ⟨rfl, rfl⟩
theorem ldaAbx (w : Word) : Statement (.ldaAbx w) := ⟨rfl, rfl⟩
theorem ldxImm (d : Byte) : Statement (.ldxImm d) := ⟨rfl, rfl⟩
theorem ldxZp (b : Byte) : Statement (.ldxZp b) := ⟨rfl, rfl⟩
theorem ldxAbs (w : Word) : Statement (.ldxAbs w) := ⟨rfl, rfl⟩
theorem ldxZpy (b : Byte) : Statement (.ldxZpy b) := ⟨rfl, rfl⟩
theorem ldxAby (w : Word) : Statement (.ldxAby w) := ⟨rfl, rfl⟩
theorem ldyImm (d : Byte) : Statement (.ldyImm d) := ⟨rfl, rfl⟩
theorem ldyZp (b : Byte) : Statement (.ldyZp b) := ⟨rfl, rfl⟩
theorem ldyAbs (w : Word) : Statement (.ldyAbs w) := ⟨rfl, rfl⟩
theorem ldyZpx (b : Byte) : Statement (.ldyZpx b) := ⟨rfl, rfl⟩
theorem ldyAbx (w : Word) : Statement (.ldyAbx w) := ⟨rfl, rfl⟩
theorem saxIzx (b : Byte) : Statement (.saxIzx b) := ⟨rfl, rfl⟩
theorem saxZp (b : Byte) : Statement (.saxZp b) := ⟨rfl, rfl⟩
theorem saxAbs (w : Word) : Statement (.saxAbs w) := ⟨rfl, rfl⟩
theorem saxZpy (b : Byte) : Statement (.saxZpy b) := ⟨rfl, rfl⟩
theorem shaIzy (b : Byte) : Statement (.shaIzy b) := ⟨rfl, rfl⟩
theorem shaAby (w : Word) : Statement (.shaAby w) := ⟨rfl, rfl⟩
theorem shx (w : Word) : Statement (.shx w) := ⟨rfl, rfl⟩
theorem shy (w : Word) : Statement (.shy w) := ⟨rfl, rfl⟩
theorem staIzx (b : Byte) : Statement (.staIzx b) := ⟨rfl, rfl⟩
theorem staZp (b : Byte) : Statement (.staZp b) := ⟨rfl, rfl⟩
theorem staAbs (w : Word) : Statement (.staAbs w) := ⟨rfl, rfl⟩
theorem staIzy (b : Byte) : Statement (.staIzy b) := ⟨rfl, rfl⟩
theorem staZpx (b : Byte) : Statement (.staZpx b) := ⟨rfl, rfl⟩
theorem staAby (w : Word) : Statement (.staAby w) := ⟨rfl, rfl⟩
theorem staAbx (w : Word) : Statement (.staAbx w) := ⟨rfl, rfl⟩
theorem stxZp (b : Byte) : Statement (.stxZp b) := ⟨rfl, rfl⟩
theorem stxAbs (w : Word) : Statement (.stxAbs w) := ⟨rfl, rfl⟩
theorem stxZpy (b : Byte) : Statement (.stxZpy b) := ⟨rfl, rfl⟩
theorem styZp (b : Byte) : Statement (.styZp b) := ⟨rfl, rfl⟩
theorem styAbs (w : Word) : Statement (.styAbs w) := ⟨rfl, rfl⟩
theorem styZpx (b : Byte) : Statement (.styZpx b) := ⟨rfl, rfl⟩
theorem shs (w : Word) : Statement (.shs w) := ⟨rfl, rfl⟩
theorem tax : Statement .tax := ⟨rfl, rfl⟩
theorem tay : Statement .tay := ⟨rfl, rfl⟩
theorem tsx : Statement .tsx := ⟨rfl, rfl⟩
theorem txa : Statement .txa := ⟨rfl, rfl⟩
theorem txs : Statement .txs := ⟨rfl, rfl⟩
theorem tya : Statement .tya := ⟨rfl, rfl⟩
theorem pha : Statement .pha := ⟨rfl, rfl⟩
theorem php : Statement .php := ⟨rfl, rfl⟩
theorem pla : Statement .pla := ⟨rfl, rfl⟩
theorem plp : Statement .plp := ⟨rfl, rfl⟩
theorem aslZp (b : Byte) : Statement (.aslZp b) := ⟨rfl, rfl⟩
theorem aslAcc : Statement .aslAcc := ⟨rfl, rfl⟩
theorem aslAbs (w : Word) : Statement (.aslAbs w) := ⟨rfl, rfl⟩
theorem aslZpx (b : Byte) : Statement (.aslZpx b) := ⟨rfl, rfl⟩
theorem aslAbx (w : Word) : Statement (.aslAbx w) := ⟨rfl, rfl⟩
theorem lsrZp (b : Byte) : Statement (.lsrZp b) := ⟨rfl, rfl⟩
theorem lsrAcc : Statement .lsrAcc := ⟨rfl, rfl⟩
theorem lsrAbs (w : Word) : Statement (.lsrAbs w) := ⟨rfl, rfl⟩
theorem lsrZpx (b : Byte) : Statement (.lsrZpx b) := ⟨rfl, rfl⟩
theorem lsrAbx (w : Word) : Statement (.lsrAbx w) := ⟨rfl, rfl⟩
theorem rolZp (b : Byte) : Statement (.rolZp b) := ⟨rfl, rfl⟩
theorem rolAcc : Statement .rolAcc := ⟨rfl, rfl⟩
theorem rolAbs (w : Word) : Statement (.rolAbs w) := ⟨rfl, rfl⟩
theorem rolZpx (b : Byte) : Statement (.rolZpx b) := ⟨rfl, rfl⟩
theorem rolAbx (w : Word) : Statement (.rolAbx w) := ⟨rfl, rfl⟩
theorem rorZp (b : Byte) : Statement (.rorZp b) := ⟨rfl, rfl⟩
theorem rorAcc : Statement .rorAcc := ⟨rfl, rfl⟩
theorem rorAbs (w : Word) : Statement (.rorAbs w) := ⟨rfl, rfl⟩
theorem rorZpx (b : Byte) : Statement (.rorZpx b) := ⟨rfl, rfl⟩
theorem rorAbx (w : Word) : Statement (.rorAbx w) := ⟨rfl, rfl⟩
theorem andIzx (b : Byte) : Statement (.andIzx b) := ⟨rfl, rfl⟩
theorem andZp (b : Byte) : Statement (.andZp b) := ⟨rfl, rfl⟩
theorem andImm (d : Byte) : Statement (.andImm d) := ⟨rfl, rfl⟩
theorem andAbs (w : Word) : Statement (.andAbs w) := ⟨rfl, rfl⟩
theorem andIzy (b : Byte) : Statement (.andIzy b) := ⟨rfl, rfl⟩
theorem andZpx (b : Byte) : Statement (.andZpx b) := ⟨rfl, rfl⟩
theorem andAby (w : Word) : Statement (.andAby w) := ⟨rfl, rfl⟩
theorem andAbx (w : Word) : Statement (.andAbx w) := ⟨rfl, rfl⟩
theorem bitZp (b : Byte) : Statement (.bitZp b) := ⟨rfl, rfl⟩
theorem bitAbs (w : Word) : Statement (.bitAbs w) := ⟨rfl, rfl⟩
theorem eorIzx (b : Byte) : Statement (.eorIzx b) := ⟨rfl, rfl⟩
theorem eorZp (b : Byte) : Statement (.eorZp b) := ⟨rfl, rfl⟩
theorem eorImm (d : Byte) : Statement (.eorImm d) := ⟨rfl, rfl⟩
theorem eorAbs (w : Word) : Statement (.eorAbs w) := ⟨rfl, rfl⟩
theorem eorIzy (b : Byte) : Statement (.eorIzy b) := ⟨rfl, rfl⟩
theorem eorZpx (b : Byte) : Statement (.eorZpx b) := ⟨rfl, rfl⟩
theorem eorAby (w : Word) : Statement (.eorAby w) := ⟨rfl, rfl⟩
theorem eorAbx (w : Word) : Statement (.eorAbx w) := ⟨rfl, rfl⟩
theorem oraIzx (b : Byte) : Statement (.oraIzx b) := ⟨rfl, rfl⟩
theorem oraZp (b : Byte) : Statement (.oraZp b) := ⟨rfl, rfl⟩
theorem oraImm (d : Byte) : Statement (.oraImm d) := ⟨rfl, rfl⟩
theorem oraAbs (w : Word) : Statement (.oraAbs w) := ⟨rfl, rfl⟩
theorem oraIzy (b : Byte) : Statement (.oraIzy b) := ⟨rfl, rfl⟩
theorem oraZpx (b : Byte) : Statement (.oraZpx b) := ⟨rfl, rfl⟩
theorem oraAby (w : Word) : Statement (.oraAby w) := ⟨rfl, rfl⟩
theorem oraAbx (w : Word) : Statement (.oraAbx w) := ⟨rfl, rfl⟩
theorem adcIzx (b : Byte) : Statement (.adcIzx b) := ⟨rfl, rfl⟩
theorem adcZp (b : Byte) : Statement (.adcZp b) := ⟨rfl, rfl⟩
theorem adcImm (d : Byte) : Statement (.adcImm d) := ⟨rfl, rfl⟩
theorem adcAbs (w : Word) : Statement (.adcAbs w) := ⟨rfl, rfl⟩
theorem adcIzy (b : Byte) : Statement (.adcIzy b) := ⟨rfl, rfl⟩
theorem adcZpx (b : Byte) : Statement (.adcZpx b) := ⟨rfl, rfl⟩
theorem adcAby (w : Word) : Statement (.adcAby w) := ⟨rfl, rfl⟩
theorem adcAbx (w : Word) : Statement (.adcAbx w) := ⟨rfl, rfl⟩
theorem cmpIzx (b : Byte) : Statement (.cmpIzx b) := ⟨rfl, rfl⟩
theorem cmpZp (b : Byte) : Statement (.cmpZp b) := ⟨rfl, rfl⟩
theorem cmpImm (d : Byte) : Statement (.cmpImm d) := ⟨rfl, rfl⟩
theorem cmpAbs (w : Word) : Statement (.cmpAbs w) := ⟨rfl, rfl⟩
theorem cmpIzy (b : Byte) : Statement (.cmpIzy b) := ⟨rfl, rfl⟩
theorem cmpZpx (b : Byte) : Statement (.cmpZpx b) := ⟨rfl, rfl⟩
theorem cmpAby (w : Word) : Statement (.cmpAby w) := ⟨rfl, rfl⟩
theorem cmpAbx (w : Word) : Statement (.cmpAbx w) := ⟨rfl, rfl⟩
theorem cpxImm (d : Byte) : Statement (.cpxImm d) := ⟨rfl, rfl⟩
theorem cpxZp (b : Byte) : Statement (.cpxZp b) := ⟨rfl, rfl⟩
theorem cpxAbs (w : Word) : Statement (.cpxAbs w) := ⟨rfl, rfl⟩
theorem cpyImm (d : Byte) : Statement (.cpyImm d) := ⟨rfl, rfl⟩
theorem cpyZp (b : Byte) : Statement (.cpyZp b) := ⟨rfl, rfl⟩
theorem cpyAbs (w : Word) : Statement (.cpyAbs w) := ⟨rfl, rfl⟩
theorem sbcIzx (b : Byte) : Statement (.sbcIzx b) := ⟨rfl, rfl⟩
theorem sbcZp (b : Byte) : Statement (.sbcZp b) := ⟨rfl, rfl⟩
theorem sbcImm (d : Byte) : Statement (.sbcImm d) := ⟨rfl, rfl⟩
theorem sbcImmEB (d : Byte) : Statement (.sbcImmEB d) := ⟨rfl, rfl⟩
theorem sbcAbs (w : Word) : Statement (.sbcAbs w) := ⟨rfl, rfl⟩
theorem sbcIzy (b : Byte) : Statement (.sbcIzy b) := ⟨rfl, rfl⟩
theorem sbcZpx (b : Byte) : Statement (.sbcZpx b) := ⟨rfl, rfl⟩
theorem sbcAby (w : Word) : Statement (.sbcAby w) := ⟨rfl, rfl⟩
theorem sbcAbx (w : Word) : Statement (.sbcAbx w) := ⟨rfl, rfl⟩
theorem ancImm0B (d : Byte) : Statement (.ancImm0B d) := ⟨rfl, rfl⟩
theorem ancImm2B (d : Byte) : Statement (.ancImm2B d) := ⟨rfl, rfl⟩
theorem arr (d : Byte) : Statement (.arr d) := ⟨rfl, rfl⟩
theorem asr (d : Byte) : Statement (.asr d) := ⟨rfl, rfl⟩
theorem dcpIzx (b : Byte) : Statement (.dcpIzx b) := ⟨rfl, rfl⟩
theorem dcpZp (b : Byte) : Statement (.dcpZp b) := ⟨rfl, rfl⟩
theorem dcpAbs (w : Word) : Statement (.dcpAbs w) := ⟨rfl, rfl⟩
theorem dcpIzy (b : Byte) : Statement (.dcpIzy b) := ⟨rfl, rfl⟩
theorem dcpZpx (b : Byte) : Statement (.dcpZpx b) := ⟨rfl, rfl⟩
theorem dcpAby (w : Word) : Statement (.dcpAby w) := ⟨rfl, rfl⟩
theorem dcpAbx (w : Word) : Statement (.dcpAbx w) := ⟨rfl, rfl⟩
theorem iscIzx (b : Byte) : Statement (.iscIzx b) := ⟨rfl, rfl⟩
theorem iscZp (b : Byte) : Statement (.iscZp b) := ⟨rfl, rfl⟩
theorem iscAbs (w : Word) : Statement (.iscAbs w) := ⟨rfl, rfl⟩
theorem iscIzy (b : Byte) : Statement (.iscIzy b) := ⟨rfl, rfl⟩
theorem iscZpx (b : Byte) : Statement (.iscZpx b) := ⟨rfl, rfl⟩
theorem iscAby (w : Word) : Statement (.iscAby w) := ⟨rfl, rfl⟩
theorem iscAbx (w : Word) : Statement (.iscAbx w) := ⟨rfl, rfl⟩
theorem rlaIzx (b : Byte) : Statement (.rlaIzx b) := ⟨rfl, rfl⟩
theorem rlaZp (b : Byte) : Statement (.rlaZp b) := ⟨rfl, rfl⟩
theorem rlaAbs (w : Word) : Statement (.rlaAbs w) := ⟨rfl, rfl⟩
theorem rlaIzy (b : Byte) : Statement (.rlaIzy b) := ⟨rfl, rfl⟩
theorem rlaZpx (b : Byte) : Statement (.rlaZpx b) := ⟨rfl, rfl⟩
theorem rlaAby (w : Word) : Statement (.rlaAby w) := ⟨rfl, rfl⟩
theorem rlaAbx (w : Word) : Statement (.rlaAbx w) := ⟨rfl, rfl⟩
theorem rraIzx (b : Byte) : Statement (.rraIzx b) := ⟨rfl, rfl⟩
theorem rraZp (b : Byte) : Statement (.rraZp b) := ⟨rfl, rfl⟩
theorem rraAbs (w : Word) : Statement (.rraAbs w) := ⟨rfl, rfl⟩
theorem rraIzy (b : Byte) : Statement (.rraIzy b) := ⟨rfl, rfl⟩
theorem rraZpx (b : Byte) : Statement (.rraZpx b) := ⟨rfl, rfl⟩
theorem rraAby (w : Word) : Statement (.rraAby w) := ⟨rfl, rfl⟩
theorem rraAbx (w : Word) : Statement (.rraAbx w) := ⟨rfl, rfl⟩
theorem sbx (d : Byte) : Statement (.sbx d) := ⟨rfl, rfl⟩
theorem sloIzx (b : Byte) : Statement (.sloIzx b) := ⟨rfl, rfl⟩
theorem sloZp (b : Byte) : Statement (.sloZp b) := ⟨rfl, rfl⟩
theorem sloAbs (w : Word) : Statement (.sloAbs w) := ⟨rfl, rfl⟩
theorem sloIzy (b : Byte) : Statement (.sloIzy b) := ⟨rfl, rfl⟩
theorem sloZpx (b : Byte) : Statement (.sloZpx b) := ⟨rfl, rfl⟩
theorem sloAby (w : Word) : Statement (.sloAby w) := ⟨rfl, rfl⟩
theorem sloAbx (w : Word) : Statement (.sloAbx w) := ⟨rfl, rfl⟩
theorem sreIzx (b : Byte) : Statement (.sreIzx b) := ⟨rfl, rfl⟩
theorem sreZp (b : Byte) : Statement (.sreZp b) := ⟨rfl, rfl⟩
theorem sreAbs (w : Word) : Statement (.sreAbs w) := ⟨rfl, rfl⟩
theorem sreIzy (b : Byte) : Statement (.sreIzy b) := ⟨rfl, rfl⟩
theorem sreZpx (b : Byte) : Statement (.sreZpx b) := ⟨rfl, rfl⟩
theorem sreAby (w : Word) : Statement (.sreAby w) := ⟨rfl, rfl⟩
theorem sreAbx (w : Word) : Statement (.sreAbx w) := ⟨rfl, rfl⟩
theorem xaa (d : Byte) : Statement (.xaa d) := ⟨rfl, rfl⟩
theorem decZp (b : Byte) : Statement (.decZp b) := ⟨rfl, rfl⟩
theorem decAbs (w : Word) : Statement (.decAbs w) := ⟨rfl, rfl⟩
theorem decZpx (b : Byte) : Statement (.decZpx b) := ⟨rfl, rfl⟩
theorem decAbx (w : Word) : Statement (.decAbx w) := ⟨rfl, rfl⟩
theorem dex : Statement .dex := ⟨rfl, rfl⟩
theorem dey : Statement .dey := ⟨rfl, rfl⟩
theorem incZp (b : Byte) : Statement (.incZp b) := ⟨rfl, rfl⟩
theorem incAbs (w : Word) : Statement (.incAbs w) := ⟨rfl, rfl⟩
theorem incZpx (b : Byte) : Statement (.incZpx b) := ⟨rfl, rfl⟩
theorem incAbx (w : Word) : Statement (.incAbx w) := ⟨rfl, rfl⟩
theorem inx : Statement .inx := ⟨rfl, rfl⟩
theorem iny : Statement .iny := ⟨rfl, rfl⟩
theorem brk : Statement .brk := ⟨rfl, rfl⟩
theorem jmpAbs (w : Word) : Statement (.jmpAbs w) := ⟨rfl, rfl⟩
theorem jmpInd (w : Word) : Statement (.jmpInd w) := ⟨rfl, rfl⟩
theorem jsr (w : Word) : Statement (.jsr w) := ⟨rfl, rfl⟩
theorem rti : Statement .rti := ⟨rfl, rfl⟩
theorem rts : Statement .rts := ⟨rfl, rfl⟩
theorem bcc (r : Byte) : Statement (.bcc r) := ⟨rfl, rfl⟩
theorem bcs (r : Byte) : Statement (.bcs r) := ⟨rfl, rfl⟩
theorem beq (r : Byte) : Statement (.beq r) := ⟨rfl, rfl⟩
theorem bmi (r : Byte) : Statement (.bmi r) := ⟨rfl, rfl⟩
theorem bne (r : Byte) : Statement (.bne r) := ⟨rfl, rfl⟩
theorem bpl (r : Byte) : Statement (.bpl r) := ⟨rfl, rfl⟩
theorem bvc (r : Byte) : Statement (.bvc r) := ⟨rfl, rfl⟩
theorem bvs (r : Byte) : Statement (.bvs r) := ⟨rfl, rfl⟩
theorem nopZp04 (b : Byte) : Statement (.nopZp04 b) := ⟨rfl, rfl⟩
theorem nopAbs (w : Word) : Statement (.nopAbs w) := ⟨rfl, rfl⟩
theorem nopZpx14 (b : Byte) : Statement (.nopZpx14 b) := ⟨rfl, rfl⟩
theorem nop1A : Statement .nop1A := ⟨rfl, rfl⟩
theorem nopAbx1C (w : Word) : Statement (.nopAbx1C w) := ⟨rfl, rfl⟩
theorem nopZpx34 (b : Byte) : Statement (.nopZpx34 b) := ⟨rfl, rfl⟩
theorem nop3A : Statement .nop3A := ⟨rfl, rfl⟩
theorem nopAbx3C (w : Word) : Statement (.nopAbx3C w) := ⟨rfl, rfl⟩
theorem nopZp44 (b : Byte) : Statement (.nopZp44 b) := ⟨rfl, rfl⟩
theorem nopZpx54 (b : Byte) : Statement (.nopZpx54 b) := ⟨rfl, rfl⟩
theorem nop5A : Statement .nop5A := ⟨rfl, rfl⟩
theorem nopAbx5C (w : Word) : Statement (.nopAbx5C w) := ⟨rfl, rfl⟩
theorem nopZp64 (b : Byte) : Statement (.nopZp64 b) := ⟨rfl, rfl⟩
theorem nopZpx74 (b : Byte) : Statement (.nopZpx74 b) := ⟨rfl, rfl⟩
theorem nop7A : Statement .nop7A := ⟨rfl, rfl⟩
theorem nopAbx7C (w : Word) : Statement (.nopAbx7C w) := ⟨rfl, rfl⟩
theorem nopImm80 (d : Byte) : Statement (.nopImm80 d) := ⟨rfl, rfl⟩
theorem nopImm82 (d : Byte) : Statement (.nopImm82 d) := ⟨rfl, rfl⟩
theorem nopImm89 (d : Byte) : Statement (.nopImm89 d) := ⟨rfl, rfl⟩
theorem nopImmC2 (d : Byte) : Statement (.nopImmC2 d) := ⟨rfl, rfl⟩
theorem nopZpxD4 (b : Byte) : Statement (.nopZpxD4 b) := ⟨rfl, rfl⟩
theorem nopDA : Statement .nopDA := ⟨rfl, rfl⟩
theorem nopAbxDC (w : Word) : Statement (.nopAbxDC w) := ⟨rfl, rfl⟩
theorem nopImmE2 (d : Byte) : Statement (.nopImmE2 d) := ⟨rfl, rfl⟩
theorem nop : Statement .nop := ⟨rfl, rfl⟩
theorem nopZpxF4 (b : Byte) : Statement (.nopZpxF4 b) := ⟨rfl, rfl⟩
theorem nopFA : Statement .nopFA := ⟨rfl, rfl⟩
theorem nopAbxFC (w : Word) : Statement (.nopAbxFC w) := ⟨rfl, rfl⟩
theorem clc : Statement .clc := ⟨rfl, rfl⟩
theorem cld : Statement .cld := ⟨rfl, rfl⟩
theorem cli : Statement .cli := ⟨rfl, rfl⟩
theorem clv : Statement .clv := ⟨rfl, rfl⟩
theorem sec : Statement .sec := ⟨rfl, rfl⟩
theorem sed : Statement .sed := ⟨rfl, rfl⟩
theorem sei : Statement .sei := ⟨rfl, rfl⟩
theorem jam02 : Statement .jam02 := ⟨rfl, rfl⟩
theorem jam12 : Statement .jam12 := ⟨rfl, rfl⟩
theorem jam22 : Statement .jam22 := ⟨rfl, rfl⟩
theorem jam32 : Statement .jam32 := ⟨rfl, rfl⟩
theorem jam42 : Statement .jam42 := ⟨rfl, rfl⟩
theorem jam52 : Statement .jam52 := ⟨rfl, rfl⟩
theorem jam62 : Statement .jam62 := ⟨rfl, rfl⟩
theorem jam72 : Statement .jam72 := ⟨rfl, rfl⟩
theorem jam92 : Statement .jam92 := ⟨rfl, rfl⟩
theorem jamB2 : Statement .jamB2 := ⟨rfl, rfl⟩
theorem jamD2 : Statement .jamD2 := ⟨rfl, rfl⟩
theorem jamF2 : Statement .jamF2 := ⟨rfl, rfl⟩

end Sys2Proof.Laws.FormListed
end

