-- ==== Sys2Proof/Laws/Step.lean ====
section
/-! SUPPORT. Inversion of a step: what one step can be, said once, and what a fetch can do. -/

namespace Sys2Proof.Machine

/-- A fetch only reads. -/
theorem fetch_readOnly (s : State) : ReadOnly s s.fetch.2 := by
  unfold State.fetch
  have h := busRead_readOnly s.pc s
  simp only
  split
  · exact h
  · exact h.trans (busRead_readOnly _ _)
  · exact h.trans (readPair_readOnly _ _ _)

/-- The five outcomes of a boundary, in the order they are tested (`60_exceptions.md` R313). -/
theorem boundary_cases (s : State) :
    (s.sample.reset = true ∧ s.boundary = .event s.dropSample.resetSequence) ∨
    (s.sample.reset = false ∧ s.halted = true ∧
      s.boundary = .event (s.dropSample.latchNmi s.sample.nmi)) ∨
    (s.sample.reset = false ∧ s.halted = false ∧ (s.nmiPending || s.sample.nmi) = true ∧
      s.boundary = .event (s.dropSample.latchNmi s.sample.nmi).takeNmi) ∨
    (s.sample.reset = false ∧ s.halted = false ∧ (s.nmiPending || s.sample.nmi) = false ∧
      s.sample.irq = true ∧ s.p.i = false ∧
      s.boundary = .event (s.dropSample.latchNmi s.sample.nmi).takeIrq) ∨
    (s.sample.reset = false ∧ s.halted = false ∧ (s.nmiPending || s.sample.nmi) = false ∧
      (s.sample.irq && !s.p.i) = false ∧
      s.boundary = .instruction (s.dropSample.latchNmi s.sample.nmi)) := by
  have hh : (s.dropSample.latchNmi s.sample.nmi).halted = s.halted := rfl
  have hn : (s.dropSample.latchNmi s.sample.nmi).nmiPending = (s.nmiPending || s.sample.nmi) := rfl
  have hi : (s.dropSample.latchNmi s.sample.nmi).p.i = s.p.i := rfl
  unfold State.boundary
  cases hr : s.sample.reset
  · cases hhalt : s.halted
    · cases hnmi : (s.nmiPending || s.sample.nmi)
      · cases hirq : (s.sample.irq && !s.p.i)
        · simp [hr, hh, hhalt, hn, hnmi, hi, hirq]
        · simp only [Bool.and_eq_true, Bool.not_eq_true'] at hirq
          simp [hr, hh, hhalt, hn, hnmi, hi, hirq]
      · simp [hr, hh, hhalt, hn, hnmi]
    · simp [hr, hh, hhalt]
  · simp [hr]

/-- What a step can be: a reset, the stutter of a halted core, an NMI, an IRQ, or one whole instruction. -/
theorem step_cases {s t : State} (h : step s = .next t) :
    (s.sample.reset = true ∧ t = s.dropSample.resetSequence) ∨
    (s.sample.reset = false ∧ s.halted = true ∧ t = s.dropSample.latchNmi s.sample.nmi) ∨
    (s.sample.reset = false ∧ s.halted = false ∧ (s.nmiPending || s.sample.nmi) = true ∧
      t = (s.dropSample.latchNmi s.sample.nmi).takeNmi) ∨
    (s.sample.reset = false ∧ s.halted = false ∧ (s.nmiPending || s.sample.nmi) = false ∧
      s.sample.irq = true ∧ s.p.i = false ∧ t = (s.dropSample.latchNmi s.sample.nmi).takeIrq) ∨
    (s.sample.reset = false ∧ s.halted = false ∧ (s.nmiPending || s.sample.nmi) = false ∧
      (s.sample.irq && !s.p.i) = false ∧
      exec (s.dropSample.latchNmi s.sample.nmi).fetch.1 (s.dropSample.latchNmi s.sample.nmi).fetch.2 = .next t) := by
  unfold step at h
  rcases boundary_cases s with ⟨h1, hb⟩ | ⟨h1, h2, hb⟩ | ⟨h1, h2, h3, hb⟩ | ⟨h1, h2, h3, h4, h5, hb⟩ |
    ⟨h1, h2, h3, h4, hb⟩ <;> rw [hb] at h
  · exact .inl ⟨h1, (Host.Outcome.next.inj h).symm⟩
  · exact .inr (.inl ⟨h1, h2, (Host.Outcome.next.inj h).symm⟩)
  · exact .inr (.inr (.inl ⟨h1, h2, h3, (Host.Outcome.next.inj h).symm⟩))
  · exact .inr (.inr (.inr (.inl ⟨h1, h2, h3, h4, h5, (Host.Outcome.next.inj h).symm⟩)))
  · exact .inr (.inr (.inr (.inr ⟨h1, h2, h3, h4, h⟩)))

end Sys2Proof.Machine
end

