-- ==== Sys2Proof/Machine/Assembly.lean ====
section
/-! DEFINITION. The assembly language form of an instruction (`30_encoding.md` R76, R82). -/

namespace Sys2Proof.Machine

/-- A hexadecimal digit. -/
def hexDigit (n : Nat) : Char := "0123456789ABCDEF".toList.getD n '?'

/-- `$nn` (R82). -/
def hexByte (b : Byte) : List Char := ['$', hexDigit (b.toNat / 16), hexDigit (b.toNat % 16)]

/-- `$nnnn` (R82). -/
def hexWord (w : Word) : List Char := hexByte (hiByte w) ++ (hexByte (loByte w)).drop 1

/-- The three letters of a mnemonic (R82). -/
def mnemonicText : Mnemonic → String
  | .las => "LAS"
  | .lax => "LAX"
  | .lda => "LDA"
  | .ldx => "LDX"
  | .ldy => "LDY"
  | .sax => "SAX"
  | .sha => "SHA"
  | .shx => "SHX"
  | .shy => "SHY"
  | .sta => "STA"
  | .stx => "STX"
  | .sty => "STY"
  | .shs => "SHS"
  | .tax => "TAX"
  | .tay => "TAY"
  | .tsx => "TSX"
  | .txa => "TXA"
  | .txs => "TXS"
  | .tya => "TYA"
  | .pha => "PHA"
  | .php => "PHP"
  | .pla => "PLA"
  | .plp => "PLP"
  | .asl => "ASL"
  | .lsr => "LSR"
  | .rol => "ROL"
  | .ror => "ROR"
  | .and => "AND"
  | .bit => "BIT"
  | .eor => "EOR"
  | .ora => "ORA"
  | .adc => "ADC"
  | .cmp => "CMP"
  | .cpx => "CPX"
  | .cpy => "CPY"
  | .sbc => "SBC"
  | .anc => "ANC"
  | .arr => "ARR"
  | .asr => "ASR"
  | .dcp => "DCP"
  | .isc => "ISC"
  | .rla => "RLA"
  | .rra => "RRA"
  | .sbx => "SBX"
  | .slo => "SLO"
  | .sre => "SRE"
  | .xaa => "XAA"
  | .dec => "DEC"
  | .dex => "DEX"
  | .dey => "DEY"
  | .inc => "INC"
  | .inx => "INX"
  | .iny => "INY"
  | .brk => "BRK"
  | .jmp => "JMP"
  | .jsr => "JSR"
  | .rti => "RTI"
  | .rts => "RTS"
  | .bcc => "BCC"
  | .bcs => "BCS"
  | .beq => "BEQ"
  | .bmi => "BMI"
  | .bne => "BNE"
  | .bpl => "BPL"
  | .bvc => "BVC"
  | .bvs => "BVS"
  | .nop => "NOP"
  | .clc => "CLC"
  | .cld => "CLD"
  | .cli => "CLI"
  | .clv => "CLV"
  | .sec => "SEC"
  | .sed => "SED"
  | .sei => "SEI"
  | .jam => "JAM"

/-- The operand as the assembler writes it (R76, R82). A branch, at address `addr`, is written with its target. -/
def operandText (addr : Word) : Operand → List Char
  | .implied => []
  | .accumulator => " A".toList
  | .immediate d => " #".toList ++ hexByte d
  | .memory (.zp b) => [' '] ++ hexByte b
  | .memory (.zpx b) => [' '] ++ hexByte b ++ ",X".toList
  | .memory (.zpy b) => [' '] ++ hexByte b ++ ",Y".toList
  | .memory (.abs w) => [' '] ++ hexWord w
  | .memory (.abx w) => [' '] ++ hexWord w ++ ",X".toList
  | .memory (.aby w) => [' '] ++ hexWord w ++ ",Y".toList
  | .memory (.izx b) => " (".toList ++ hexByte b ++ ",X)".toList
  | .memory (.izy b) => " (".toList ++ hexByte b ++ "),Y".toList
  | .indirect w => " (".toList ++ hexWord w ++ [')']
  | .relative r => [' '] ++ hexWord (addr + 2 + sext16 r)

/-- An instruction at an address in assembly language (R82). -/
def assembly (addr : Word) (i : Instr) : List Char := (mnemonicText i.mnemonic).toList ++ operandText addr i.operand

end Sys2Proof.Machine
end

