-- ==== Sys2Proof/Tests/Slice0.lean ====
section
/-! SUPPORT. Tests: the words of the spec's encoding tables, its cycle counts, its vectors of one instruction
(`95_test_vectors.md` section 2), ill-formed terms that WellFormed refuses, and a state that meets the hypotheses of each
statement. -/

namespace Sys2Proof.Tests

open Sys2Proof.Machine Sys2Proof.Claims

/-! ### WellFormed refuses ill-formed terms -/

theorem test_wf_ldx_indexed_by_x : formWf .ldx (.memory (.zpx 0x10#8)) = false := by decide
theorem test_wf_sta_immediate : formWf .sta (.immediate 0x10#8) = false := by decide
theorem test_wf_asl_indexed_by_y : formWf .asl (.memory (.aby 0x1000#16)) = false := by decide
theorem test_wf_bit_immediate : formWf .bit (.immediate 0x10#8) = false := by decide
theorem test_wf_jmp_zero_page : formWf .jmp (.memory (.zp 0x10#8)) = false := by decide
theorem test_wf_tax_accumulator : formWf .tax .accumulator = false := by decide
theorem test_wf_bne_absolute : formWf .bne (.memory (.abs 0x1000#16)) = false := by decide
theorem test_wf_jsr_indirect : formWf .jsr (.indirect 0x1000#16) = false := by decide
theorem test_wf_lda_implied : formWf .lda .implied = false := by decide
theorem test_wf_dec_izy : formWf .dec (.memory (.izy 0x10#8)) = false := by decide
theorem test_wf_accepts : (Instr.ldxZpy 0x10#8).wf = true := by decide

/-- Out of order, twice the same address, a listed byte that is the unlisted one, an address past the end. -/
theorem test_memory_wf_refuses :
    ¬ Memory.wf [(2, 1#8), (1, 1#8)] ∧ ¬ Memory.wf [(1, 1#8), (1, 2#8)] ∧ ¬ Memory.wf [(1, 0#8)] ∧
      ¬ Memory.wf [(65536, 1#8)] ∧ Memory.wf [(1, 1#8), (65535, 2#8)] := by decide

/-- The last target in reach and the first out of it, both ways. -/
theorem test_branch_offset_reach :
    branchOffset 0x0200#16 0x0281#16 = some 0x7F#8 ∧ branchOffset 0x0200#16 0x0282#16 = none ∧
      branchOffset 0x0200#16 0x0182#16 = some 0x80#8 ∧ branchOffset 0x0200#16 0x0181#16 = none := by decide

/-! ### Decoding: every row of the encoding tables, with operand bytes $34 and $12 -/

/-- What an opcode followed by $34 $12 decodes to. -/
def decoded (op : Nat) : Option Instr := decodeTableWord 24 (op + 0x123400)

theorem test_decode_row_0 : ((List.range 16).map fun k => decoded (0x00 + k)) =
    [some .brk, some (.oraIzx 0x34#8), some .jam02, some (.sloIzx 0x34#8), some (.nopZp04 0x34#8),
     some (.oraZp 0x34#8), some (.aslZp 0x34#8), some (.sloZp 0x34#8), some .php, some (.oraImm 0x34#8),
     some .aslAcc, some (.ancImm0B 0x34#8), some (.nopAbs 0x1234#16), some (.oraAbs 0x1234#16),
     some (.aslAbs 0x1234#16), some (.sloAbs 0x1234#16)] := by
  decide

theorem test_decode_row_1 : ((List.range 16).map fun k => decoded (0x10 + k)) =
    [some (.bpl 0x34#8), some (.oraIzy 0x34#8), some .jam12, some (.sloIzy 0x34#8), some (.nopZpx14 0x34#8),
     some (.oraZpx 0x34#8), some (.aslZpx 0x34#8), some (.sloZpx 0x34#8), some .clc, some (.oraAby 0x1234#16),
     some .nop1A, some (.sloAby 0x1234#16), some (.nopAbx1C 0x1234#16), some (.oraAbx 0x1234#16),
     some (.aslAbx 0x1234#16), some (.sloAbx 0x1234#16)] := by
  decide

theorem test_decode_row_2 : ((List.range 16).map fun k => decoded (0x20 + k)) =
    [some (.jsr 0x1234#16), some (.andIzx 0x34#8), some .jam22, some (.rlaIzx 0x34#8), some (.bitZp 0x34#8),
     some (.andZp 0x34#8), some (.rolZp 0x34#8), some (.rlaZp 0x34#8), some .plp, some (.andImm 0x34#8),
     some .rolAcc, some (.ancImm2B 0x34#8), some (.bitAbs 0x1234#16), some (.andAbs 0x1234#16),
     some (.rolAbs 0x1234#16), some (.rlaAbs 0x1234#16)] := by
  decide

theorem test_decode_row_3 : ((List.range 16).map fun k => decoded (0x30 + k)) =
    [some (.bmi 0x34#8), some (.andIzy 0x34#8), some .jam32, some (.rlaIzy 0x34#8), some (.nopZpx34 0x34#8),
     some (.andZpx 0x34#8), some (.rolZpx 0x34#8), some (.rlaZpx 0x34#8), some .sec, some (.andAby 0x1234#16),
     some .nop3A, some (.rlaAby 0x1234#16), some (.nopAbx3C 0x1234#16), some (.andAbx 0x1234#16),
     some (.rolAbx 0x1234#16), some (.rlaAbx 0x1234#16)] := by
  decide

theorem test_decode_row_4 : ((List.range 16).map fun k => decoded (0x40 + k)) =
    [some .rti, some (.eorIzx 0x34#8), some .jam42, some (.sreIzx 0x34#8), some (.nopZp44 0x34#8),
     some (.eorZp 0x34#8), some (.lsrZp 0x34#8), some (.sreZp 0x34#8), some .pha, some (.eorImm 0x34#8),
     some .lsrAcc, some (.asr 0x34#8), some (.jmpAbs 0x1234#16), some (.eorAbs 0x1234#16), some (.lsrAbs 0x1234#16),
     some (.sreAbs 0x1234#16)] := by
  decide

theorem test_decode_row_5 : ((List.range 16).map fun k => decoded (0x50 + k)) =
    [some (.bvc 0x34#8), some (.eorIzy 0x34#8), some .jam52, some (.sreIzy 0x34#8), some (.nopZpx54 0x34#8),
     some (.eorZpx 0x34#8), some (.lsrZpx 0x34#8), some (.sreZpx 0x34#8), some .cli, some (.eorAby 0x1234#16),
     some .nop5A, some (.sreAby 0x1234#16), some (.nopAbx5C 0x1234#16), some (.eorAbx 0x1234#16),
     some (.lsrAbx 0x1234#16), some (.sreAbx 0x1234#16)] := by
  decide

theorem test_decode_row_6 : ((List.range 16).map fun k => decoded (0x60 + k)) =
    [some .rts, some (.adcIzx 0x34#8), some .jam62, some (.rraIzx 0x34#8), some (.nopZp64 0x34#8),
     some (.adcZp 0x34#8), some (.rorZp 0x34#8), some (.rraZp 0x34#8), some .pla, some (.adcImm 0x34#8),
     some .rorAcc, some (.arr 0x34#8), some (.jmpInd 0x1234#16), some (.adcAbs 0x1234#16), some (.rorAbs 0x1234#16),
     some (.rraAbs 0x1234#16)] := by
  decide

theorem test_decode_row_7 : ((List.range 16).map fun k => decoded (0x70 + k)) =
    [some (.bvs 0x34#8), some (.adcIzy 0x34#8), some .jam72, some (.rraIzy 0x34#8), some (.nopZpx74 0x34#8),
     some (.adcZpx 0x34#8), some (.rorZpx 0x34#8), some (.rraZpx 0x34#8), some .sei, some (.adcAby 0x1234#16),
     some .nop7A, some (.rraAby 0x1234#16), some (.nopAbx7C 0x1234#16), some (.adcAbx 0x1234#16),
     some (.rorAbx 0x1234#16), some (.rraAbx 0x1234#16)] := by
  decide

theorem test_decode_row_8 : ((List.range 16).map fun k => decoded (0x80 + k)) =
    [some (.nopImm80 0x34#8), some (.staIzx 0x34#8), some (.nopImm82 0x34#8), some (.saxIzx 0x34#8),
     some (.styZp 0x34#8), some (.staZp 0x34#8), some (.stxZp 0x34#8), some (.saxZp 0x34#8), some .dey,
     some (.nopImm89 0x34#8), some .txa, some (.xaa 0x34#8), some (.styAbs 0x1234#16), some (.staAbs 0x1234#16),
     some (.stxAbs 0x1234#16), some (.saxAbs 0x1234#16)] := by
  decide

theorem test_decode_row_9 : ((List.range 16).map fun k => decoded (0x90 + k)) =
    [some (.bcc 0x34#8), some (.staIzy 0x34#8), some .jam92, some (.shaIzy 0x34#8), some (.styZpx 0x34#8),
     some (.staZpx 0x34#8), some (.stxZpy 0x34#8), some (.saxZpy 0x34#8), some .tya, some (.staAby 0x1234#16),
     some .txs, some (.shs 0x1234#16), some (.shy 0x1234#16), some (.staAbx 0x1234#16), some (.shx 0x1234#16),
     some (.shaAby 0x1234#16)] := by
  decide

theorem test_decode_row_A : ((List.range 16).map fun k => decoded (0xA0 + k)) =
    [some (.ldyImm 0x34#8), some (.ldaIzx 0x34#8), some (.ldxImm 0x34#8), some (.laxIzx 0x34#8),
     some (.ldyZp 0x34#8), some (.ldaZp 0x34#8), some (.ldxZp 0x34#8), some (.laxZp 0x34#8), some .tay,
     some (.ldaImm 0x34#8), some .tax, some (.laxImm 0x34#8), some (.ldyAbs 0x1234#16), some (.ldaAbs 0x1234#16),
     some (.ldxAbs 0x1234#16), some (.laxAbs 0x1234#16)] := by
  decide

theorem test_decode_row_B : ((List.range 16).map fun k => decoded (0xB0 + k)) =
    [some (.bcs 0x34#8), some (.ldaIzy 0x34#8), some .jamB2, some (.laxIzy 0x34#8), some (.ldyZpx 0x34#8),
     some (.ldaZpx 0x34#8), some (.ldxZpy 0x34#8), some (.laxZpy 0x34#8), some .clv, some (.ldaAby 0x1234#16),
     some .tsx, some (.las 0x1234#16), some (.ldyAbx 0x1234#16), some (.ldaAbx 0x1234#16), some (.ldxAby 0x1234#16),
     some (.laxAby 0x1234#16)] := by
  decide

theorem test_decode_row_C : ((List.range 16).map fun k => decoded (0xC0 + k)) =
    [some (.cpyImm 0x34#8), some (.cmpIzx 0x34#8), some (.nopImmC2 0x34#8), some (.dcpIzx 0x34#8),
     some (.cpyZp 0x34#8), some (.cmpZp 0x34#8), some (.decZp 0x34#8), some (.dcpZp 0x34#8), some .iny,
     some (.cmpImm 0x34#8), some .dex, some (.sbx 0x34#8), some (.cpyAbs 0x1234#16), some (.cmpAbs 0x1234#16),
     some (.decAbs 0x1234#16), some (.dcpAbs 0x1234#16)] := by
  decide

theorem test_decode_row_D : ((List.range 16).map fun k => decoded (0xD0 + k)) =
    [some (.bne 0x34#8), some (.cmpIzy 0x34#8), some .jamD2, some (.dcpIzy 0x34#8), some (.nopZpxD4 0x34#8),
     some (.cmpZpx 0x34#8), some (.decZpx 0x34#8), some (.dcpZpx 0x34#8), some .cld, some (.cmpAby 0x1234#16),
     some .nopDA, some (.dcpAby 0x1234#16), some (.nopAbxDC 0x1234#16), some (.cmpAbx 0x1234#16),
     some (.decAbx 0x1234#16), some (.dcpAbx 0x1234#16)] := by
  decide

theorem test_decode_row_E : ((List.range 16).map fun k => decoded (0xE0 + k)) =
    [some (.cpxImm 0x34#8), some (.sbcIzx 0x34#8), some (.nopImmE2 0x34#8), some (.iscIzx 0x34#8),
     some (.cpxZp 0x34#8), some (.sbcZp 0x34#8), some (.incZp 0x34#8), some (.iscZp 0x34#8), some .inx,
     some (.sbcImm 0x34#8), some .nop, some (.sbcImmEB 0x34#8), some (.cpxAbs 0x1234#16), some (.sbcAbs 0x1234#16),
     some (.incAbs 0x1234#16), some (.iscAbs 0x1234#16)] := by
  decide

theorem test_decode_row_F : ((List.range 16).map fun k => decoded (0xF0 + k)) =
    [some (.beq 0x34#8), some (.sbcIzy 0x34#8), some .jamF2, some (.iscIzy 0x34#8), some (.nopZpxF4 0x34#8),
     some (.sbcZpx 0x34#8), some (.incZpx 0x34#8), some (.iscZpx 0x34#8), some .sed, some (.sbcAby 0x1234#16),
     some .nopFA, some (.iscAby 0x1234#16), some (.nopAbxFC 0x1234#16), some (.sbcAbx 0x1234#16),
     some (.incAbx 0x1234#16), some (.iscAbx 0x1234#16)] := by
  decide

/-- Missing operand bytes are refused by name. -/
theorem test_decode_truncated :
    decode [] = .error .noOpcode ∧ decode [0xA9#8] = .error (.missingOperand 0xA9#8) ∧
      decode [0x4C#8, 0x00#8] = .error (.missingOperand 0x4C#8) := by decide

/-! ### Cycles: the base count of every row (R360, R361), with no page crossed; the branches on clear flags -/

/-- The cycles of one opcode from a state of zeros. -/
def cyclesOf (op : Nat) : Option Nat :=
  match decoded op with
  | none => none
  | some i =>
    match exec i State.reset with
    | .next t => some t.cycles
    | _ => none

theorem test_cycles_row_0 : ((List.range 16).map fun k => cyclesOf (0x00 + k)) =
    [7, 6, 0, 8, 3, 3, 5, 5, 3, 2, 2, 2, 4, 4, 6, 6].map some := by decide
theorem test_cycles_row_1 : ((List.range 16).map fun k => cyclesOf (0x10 + k)) =
    [3, 5, 0, 8, 4, 4, 6, 6, 2, 4, 2, 7, 4, 4, 7, 7].map some := by decide
theorem test_cycles_row_2 : ((List.range 16).map fun k => cyclesOf (0x20 + k)) =
    [6, 6, 0, 8, 3, 3, 5, 5, 4, 2, 2, 2, 4, 4, 6, 6].map some := by decide
theorem test_cycles_row_3 : ((List.range 16).map fun k => cyclesOf (0x30 + k)) =
    [2, 5, 0, 8, 4, 4, 6, 6, 2, 4, 2, 7, 4, 4, 7, 7].map some := by decide
theorem test_cycles_row_4 : ((List.range 16).map fun k => cyclesOf (0x40 + k)) =
    [6, 6, 0, 8, 3, 3, 5, 5, 3, 2, 2, 2, 3, 4, 6, 6].map some := by decide
theorem test_cycles_row_5 : ((List.range 16).map fun k => cyclesOf (0x50 + k)) =
    [3, 5, 0, 8, 4, 4, 6, 6, 2, 4, 2, 7, 4, 4, 7, 7].map some := by decide
theorem test_cycles_row_6 : ((List.range 16).map fun k => cyclesOf (0x60 + k)) =
    [6, 6, 0, 8, 3, 3, 5, 5, 4, 2, 2, 2, 5, 4, 6, 6].map some := by decide
theorem test_cycles_row_7 : ((List.range 16).map fun k => cyclesOf (0x70 + k)) =
    [2, 5, 0, 8, 4, 4, 6, 6, 2, 4, 2, 7, 4, 4, 7, 7].map some := by decide
theorem test_cycles_row_8 : ((List.range 16).map fun k => cyclesOf (0x80 + k)) =
    [2, 6, 2, 6, 3, 3, 3, 3, 2, 2, 2, 2, 4, 4, 4, 4].map some := by decide
theorem test_cycles_row_9 : ((List.range 16).map fun k => cyclesOf (0x90 + k)) =
    [3, 6, 0, 6, 4, 4, 4, 4, 2, 5, 2, 5, 5, 5, 5, 5].map some := by decide
theorem test_cycles_row_A : ((List.range 16).map fun k => cyclesOf (0xA0 + k)) =
    [2, 6, 2, 6, 3, 3, 3, 3, 2, 2, 2, 2, 4, 4, 4, 4].map some := by decide
theorem test_cycles_row_B : ((List.range 16).map fun k => cyclesOf (0xB0 + k)) =
    [2, 5, 0, 5, 4, 4, 4, 4, 2, 4, 2, 4, 4, 4, 4, 4].map some := by decide
theorem test_cycles_row_C : ((List.range 16).map fun k => cyclesOf (0xC0 + k)) =
    [2, 6, 2, 8, 3, 3, 5, 5, 2, 2, 2, 2, 4, 4, 6, 6].map some := by decide
theorem test_cycles_row_D : ((List.range 16).map fun k => cyclesOf (0xD0 + k)) =
    [3, 5, 0, 8, 4, 4, 6, 6, 2, 4, 2, 7, 4, 4, 7, 7].map some := by decide
theorem test_cycles_row_E : ((List.range 16).map fun k => cyclesOf (0xE0 + k)) =
    [2, 6, 2, 8, 3, 3, 5, 5, 2, 2, 2, 2, 4, 4, 6, 6].map some := by decide
theorem test_cycles_row_F : ((List.range 16).map fun k => cyclesOf (0xF0 + k)) =
    [2, 5, 0, 8, 4, 4, 6, 6, 2, 4, 2, 7, 4, 4, 7, 7].map some := by decide

/-! ### One step from a small state -/

/-- A state at $0200 with the registers, the status byte, the code there and some bytes of memory. -/
def start (a x y sp p : Nat) (code : List Nat) (cells : List (Nat × Nat)) : State :=
  { State.reset with
    a := BitVec.ofNat 8 a
    x := BitVec.ofNat 8 x
    y := BitVec.ofNat 8 y
    sp := BitVec.ofNat 8 sp
    p := Status.ofByte (BitVec.ofNat 8 p)
    pc := 0x0200#16
    mem := ((code.mapIdx fun k b => (0x0200 + k, b)) ++ cells).foldl (fun m c => m.write c.1 (BitVec.ofNat 8 c.2)) [] }

/-- What a projection gives of the state after one step. -/
def after {α : Type} (s : State) (f : State → α) : Option α :=
  match step s with
  | .next t => some (f t)
  | _ => none

/-- P as a pushed byte with bits 5 and 4 taken off. -/
def flags (t : State) : Nat := (t.p.toByte false).toNat - 32

/-- `LDA #$80`: R103, R132; immediate; N from bit 7. -/
theorem test_ldaImm :
    after (start 0x00 0x00 0x00 0xFF 0x00 [0xA9, 0x80] [])
      (fun t => (t.a, flags t)) = some (0x80#8, 0x80) := by decide

/-- `LDA $10`: R104; zero page; Z. -/
theorem test_ldaZp :
    after (start 0x55 0x00 0x00 0xFF 0x00 [0xA5, 0x10] [(0x0010, 0x00)])
      (fun t => (t.a, flags t)) = some (0x00#8, 0x02) := by decide

/-- `LDA $F0,X`: R104; ZPX wraps: EA=$000F, not $010F. -/
theorem test_ldaZpx :
    after (start 0x00 0x1F 0x00 0xFF 0x00 [0xB5, 0xF0] [(0x000F, 0x77), (0x010F, 0x99)])
      (fun t => (t.a, flags t)) = some (0x77#8, 0x00) := by decide

/-- `LDX $FF,Y`: R105; ZPY wraps to $0000. -/
theorem test_ldxZpy :
    after (start 0x00 0x00 0x01 0xFF 0x00 [0xB6, 0xFF] [(0x0000, 0x12), (0x0100, 0x34)])
      (fun t => (t.x, flags t)) = some (0x12#8, 0x00) := by decide

/-- `LDA $12FF`: R106; operand low byte first. -/
theorem test_ldaAbs :
    after (start 0x00 0x00 0x00 0xFF 0x00 [0xAD, 0xFF, 0x12] [(0x12FF, 0x7F)])
      (fun t => (t.a, flags t)) = some (0x7F#8, 0x00) := by decide

/-- `LDA $12F0,X`: R107; p=1 (cycles 5). -/
theorem test_ldaAbx :
    after (start 0x00 0x10 0x00 0xFF 0x00 [0xBD, 0xF0, 0x12] [(0x1300, 0x44)])
      (fun t => (t.a, flags t)) = some (0x44#8, 0x00) := by decide

/-- `LDA $1234,Y`: R108; p=0. -/
theorem test_ldaAby :
    after (start 0x00 0x00 0x01 0xFF 0x00 [0xB9, 0x34, 0x12] [(0x1235, 0x01)])
      (fun t => (t.a, flags t)) = some (0x01#8, 0x00) := by decide

/-- `LDA ($20,X)`: R109. -/
theorem test_ldaIzx :
    after (start 0x00 0x04 0x00 0xFF 0x00 [0xA1, 0x20] [(0x0024, 0x00), (0x0025, 0x30), (0x3000, 0xAB)])
      (fun t => (t.a, flags t)) = some (0xAB#8, 0x80) := by decide

/-- `LDA ($20),Y`: R110; p=1. -/
theorem test_ldaIzy :
    after (start 0x00 0x00 0x10 0xFF 0x00 [0xB1, 0x20] [(0x0020, 0xF0), (0x0021, 0x30), (0x3100, 0xCD)])
      (fun t => (t.a, flags t)) = some (0xCD#8, 0x80) := by decide

/-- `JMP ($30FF)`: R111, R262; high byte from $3000, not $3100. -/
theorem test_jmpInd :
    after (start 0x00 0x00 0x00 0xFF 0x00 [0x6C, 0xFF, 0x30] [(0x3000, 0x98), (0x30FF, 0x76), (0x3100, 0x55)])
      (fun t => (t.pc, flags t)) = some (0x9876#16, 0x00) := by decide

/-- `BNE +$10`: R112, R285; taken: $0202+$10. -/
theorem test_bne :
    after (start 0x00 0x00 0x00 0xFF 0x00 [0xD0, 0x10] [])
      (fun t => (t.pc, flags t)) = some (0x0212#16, 0x00) := by decide

/-- `LDX #$FF`: R133. -/
theorem test_ldxImm :
    after (start 0x00 0x00 0x00 0xFF 0x00 [0xA2, 0xFF] [])
      (fun t => (t.x, flags t)) = some (0xFF#8, 0x80) := by decide

/-- `LDY $1234,X`: R134. -/
theorem test_ldyAbx :
    after (start 0x00 0x05 0x00 0xFF 0x00 [0xBC, 0x34, 0x12] [(0x1239, 0x7F)])
      (fun t => (t.y, flags t)) = some (0x7F#8, 0x00) := by decide

/-- `STA $1234,X`: R139; flags untouched. -/
theorem test_staAbx :
    after (start 0xAA 0xFF 0x00 0xFF 0x82 [0x9D, 0x34, 0x12] [])
      (fun t => (t.mem.read 0x1333, flags t)) = some (0xAA#8, 0x82) := by decide

/-- `STX $80,Y`: R140; ZPY wrap: EA=$0010. -/
theorem test_stxZpy :
    after (start 0x00 0x42 0x90 0xFF 0x00 [0x96, 0x80] [])
      (fun t => (t.mem.read 0x0010, flags t)) = some (0x42#8, 0x00) := by decide

/-- `STY $44`: R141; storing 0 sets no flag. -/
theorem test_styZp :
    after (start 0x00 0x00 0x00 0xFF 0x00 [0x84, 0x44] [])
      (fun t => (t.mem.read 0x0044, flags t)) = some (0x00#8, 0x00) := by decide

/-- `LAX $10`: R131; A and X both loaded. -/
theorem test_laxZp :
    after (start 0x00 0x00 0x00 0xFF 0x00 [0xA7, 0x10] [(0x0010, 0x80)])
      (fun t => (t.a, flags t)) = some (0x80#8, 0x80) := by decide

/-- `LAX ($10),Y`: R131; Z=1. -/
theorem test_laxIzy :
    after (start 0x01 0x02 0x01 0xFF 0x00 [0xB3, 0x10] [(0x0010, 0xFF), (0x0011, 0x20), (0x2100, 0x00)])
      (fun t => (t.a, flags t)) = some (0x00#8, 0x02) := by decide

/-- `SAX $20`: R135; A AND X stored; flags untouched. -/
theorem test_saxZp :
    after (start 0xF0 0x3C 0x00 0xFF 0x82 [0x87, 0x20] [])
      (fun t => (t.mem.read 0x0020, flags t)) = some (0x30#8, 0x82) := by decide

/-- `SAX ($20,X)`: R135. -/
theorem test_saxIzx :
    after (start 0xFF 0x02 0x00 0xFF 0x00 [0x83, 0x20] [(0x0022, 0x00), (0x0023, 0x40)])
      (fun t => (t.mem.read 0x4000, flags t)) = some (0x02#8, 0x00) := by decide

/-- `LAS $4000,Y`: R130; M AND S to A, X, S. -/
theorem test_las :
    after (start 0x00 0x00 0x01 0x3F 0x00 [0xBB, 0x00, 0x40] [(0x4001, 0xF3)])
      (fun t => (t.sp, t.a)) = some (0x33#8, 0x33#8) := by decide

/-- `SHA $4080,Y`: R136; H1=$41: stores $41. -/
theorem test_shaAby :
    after (start 0xFF 0xFF 0x01 0xFF 0x00 [0x9F, 0x80, 0x40] [])
      (fun t => (t.mem.read 0x4081, flags t)) = some (0x41#8, 0x00) := by decide

/-- `SHA ($10),Y`: R136; H1=$7F: $F7&$3F&$7F=$37. -/
theorem test_shaIzy :
    after (start 0xF7 0x3F 0x02 0xFF 0x00 [0x93, 0x10] [(0x0010, 0x00), (0x0011, 0x7E)])
      (fun t => (t.mem.read 0x7E02, flags t)) = some (0x37#8, 0x00) := by decide

/-- `SHX $12FF,Y`: R137; H1=$13. -/
theorem test_shx :
    after (start 0x00 0xFF 0x00 0xFF 0x00 [0x9E, 0xFF, 0x12] [])
      (fun t => (t.mem.read 0x12FF, flags t)) = some (0x13#8, 0x00) := by decide

/-- `SHY $FF10,X`: R138; H1=($FF+1) mod 256=$00: stores $00. -/
theorem test_shy :
    after (start 0x00 0x01 0xAA 0xFF 0x00 [0x9C, 0x10, 0xFF] [])
      (fun t => (t.mem.read 0xFF11, flags t)) = some (0x00#8, 0x00) := by decide

/-- `TAX`: R161. -/
theorem test_tax :
    after (start 0x80 0x00 0x00 0xFF 0x00 [0xAA] [])
      (fun t => (t.x, flags t)) = some (0x80#8, 0x80) := by decide

/-- `TAY`: R162; Z=1. -/
theorem test_tay :
    after (start 0x00 0x00 0x55 0xFF 0x00 [0xA8] [])
      (fun t => (t.y, flags t)) = some (0x00#8, 0x02) := by decide

/-- `TSX`: R163. -/
theorem test_tsx :
    after (start 0x00 0x00 0x00 0xFD 0x00 [0xBA] [])
      (fun t => (t.sp, t.x)) = some (0xFD#8, 0xFD#8) := by decide

/-- `TXA`: R164; N cleared. -/
theorem test_txa :
    after (start 0x80 0x7F 0x00 0xFF 0x80 [0x8A] [])
      (fun t => (t.a, flags t)) = some (0x7F#8, 0x00) := by decide

/-- `TXS`: R165; no flags: Z stays 0 though X=0. -/
theorem test_txs :
    after (start 0x00 0x00 0x00 0xFF 0x80 [0x9A] [])
      (fun t => (t.sp, flags t)) = some (0x00#8, 0x80) := by decide

/-- `TYA`: R166. -/
theorem test_tya :
    after (start 0x00 0x00 0xFF 0xFF 0x00 [0x98] [])
      (fun t => (t.a, flags t)) = some (0xFF#8, 0x80) := by decide

/-- `PHA`: R167; store at $0100+S then S-1. -/
theorem test_pha :
    after (start 0x5A 0x00 0x00 0xFF 0x00 [0x48] [])
      (fun t => (t.mem.read 0x01FF, t.sp)) = some (0x5A#8, 0xFE#8) := by decide

/-- `PHA`: R167; S wraps $00 -> $FF. -/
theorem test_pha_again :
    after (start 0x11 0x00 0x00 0x00 0x00 [0x48] [])
      (fun t => (t.mem.read 0x0100, t.sp)) = some (0x11#8, 0xFF#8) := by decide

/-- `PHP`: R168; PByte(1) = $80+$20+$10+$01 = $B1. -/
theorem test_php :
    after (start 0x00 0x00 0x00 0xFF 0x81 [0x08] [])
      (fun t => (t.mem.read 0x01FF, t.sp)) = some (0xB1#8, 0xFE#8) := by decide

/-- `PLA`: R169; S+1 then read; Z=1. -/
theorem test_pla :
    after (start 0x77 0x00 0x00 0xFE 0x00 [0x68] [(0x01FF, 0x00)])
      (fun t => (t.sp, t.a)) = some (0xFF#8, 0x00#8) := by decide

/-- `PLP`: R170; bits 5, 4 discarded: six flags set. -/
theorem test_plp :
    after (start 0x00 0x00 0x00 0xFE 0x00 [0x28] [(0x01FF, 0xFF)])
      (fun t => (t.sp, flags t)) = some (0xFF#8, 0xCF) := by decide

/-- `PLP`: R170; $30 clears all six flags. -/
theorem test_plp_again :
    after (start 0x00 0x00 0x00 0xFE 0xCF [0x28] [(0x01FF, 0x30)])
      (fun t => (t.sp, flags t)) = some (0xFF#8, 0x00) := by decide

/-- `SHS $1000,Y`: R160; S=$33; stores $33&$11=$11. -/
theorem test_shs :
    after (start 0xF3 0x3F 0x04 0xFF 0x00 [0x9B, 0x00, 0x10] [])
      (fun t => (t.mem.read 0x1004, t.sp)) = some (0x11#8, 0x33#8) := by decide

/-- `ASL A`: R181; C=1, Z=1. -/
theorem test_aslAcc :
    after (start 0x80 0x00 0x00 0xFF 0x00 [0x0A] [])
      (fun t => (t.a, flags t)) = some (0x00#8, 0x03) := by decide

/-- `ASL $10`: R181; memory form leaves A. -/
theorem test_aslZp :
    after (start 0x99 0x00 0x00 0xFF 0x00 [0x06, 0x10] [(0x0010, 0x41)])
      (fun t => (t.mem.read 0x0010, flags t)) = some (0x82#8, 0x80) := by decide

/-- `LSR A`: R182; N always 0. -/
theorem test_lsrAcc :
    after (start 0x01 0x00 0x00 0xFF 0x80 [0x4A] [])
      (fun t => (t.a, flags t)) = some (0x00#8, 0x03) := by decide

/-- `LSR $1000,X`: R182; old C not shifted in. -/
theorem test_lsrAbx :
    after (start 0x00 0x01 0x00 0xFF 0x01 [0x5E, 0x00, 0x10] [(0x1001, 0xFE)])
      (fun t => (t.mem.read 0x1001, flags t)) = some (0x7F#8, 0x00) := by decide

/-- `ROL A`: R183; N = input bit 6. -/
theorem test_rolAcc :
    after (start 0x40 0x00 0x00 0xFF 0x01 [0x2A] [])
      (fun t => (t.a, flags t)) = some (0x81#8, 0x80) := by decide

/-- `ROL $10`: R183; C=1, result 0, Z=1. -/
theorem test_rolZp :
    after (start 0x00 0x00 0x00 0xFF 0x00 [0x26, 0x10] [(0x0010, 0x80)])
      (fun t => (t.mem.read 0x0010, flags t)) = some (0x00#8, 0x03) := by decide

/-- `ROR A`: R184; C into bit 7. -/
theorem test_rorAcc :
    after (start 0x01 0x00 0x00 0xFF 0x01 [0x6A] [])
      (fun t => (t.a, flags t)) = some (0x80#8, 0x81) := by decide

/-- `ROR $10,X`: R184. -/
theorem test_rorZpx :
    after (start 0x00 0x05 0x00 0xFF 0x00 [0x76, 0x10] [(0x0015, 0x02)])
      (fun t => (t.mem.read 0x0015, flags t)) = some (0x01#8, 0x00) := by decide

/-- `AND #$0F`: R185; Z=1. -/
theorem test_andImm :
    after (start 0xF0 0x00 0x00 0xFF 0x00 [0x29, 0x0F] [])
      (fun t => (t.a, flags t)) = some (0x00#8, 0x02) := by decide

/-- `ORA #$80`: R188. -/
theorem test_oraImm :
    after (start 0x01 0x00 0x00 0xFF 0x00 [0x09, 0x80] [])
      (fun t => (t.a, flags t)) = some (0x81#8, 0x80) := by decide

/-- `EOR #$FF`: R187; Z=1. -/
theorem test_eorImm :
    after (start 0xFF 0x00 0x00 0xFF 0x00 [0x49, 0xFF] [])
      (fun t => (t.a, flags t)) = some (0x00#8, 0x02) := by decide

/-- `BIT $10`: R186; N=M7, V=M6, Z from A AND M = 0. -/
theorem test_bitZp :
    after (start 0x3F 0x00 0x00 0xFF 0x00 [0x24, 0x10] [(0x0010, 0xC0)])
      (fun t => (flags t)) = some (0xC2) := by decide

/-- `BIT $1234`: R186; N, V cleared from M; Z=0; A unchanged. -/
theorem test_bitAbs :
    after (start 0x01 0x00 0x00 0xFF 0xC0 [0x2C, 0x34, 0x12] [(0x1234, 0x01)])
      (fun t => (flags t)) = some (0x00) := by decide

/-- `ADC #$01`: R200; signed overflow: V=1. -/
theorem test_adcImm :
    after (start 0x7F 0x00 0x00 0xFF 0x00 [0x69, 0x01] [])
      (fun t => (t.a, flags t)) = some (0x80#8, 0xC0) := by decide

/-- `SBC #$01`: R210; 0-1: borrow (C=0), N=1. -/
theorem test_sbcImm :
    after (start 0x00 0x00 0x00 0xFF 0x01 [0xE9, 0x01] [])
      (fun t => (t.a, flags t)) = some (0xFF#8, 0x80) := by decide

/-- `SBC #$40 ($EB)`: R210; undocumented twin, same result as $E9. -/
theorem test_sbcImmEB :
    after (start 0x50 0x00 0x00 0xFF 0x01 [0xEB, 0x40] [])
      (fun t => (t.a, flags t)) = some (0x10#8, 0x01) := by decide

/-- `CMP #$10`: R201; equal: Z=1, C=1; V untouched. -/
theorem test_cmpImm :
    after (start 0x10 0x00 0x00 0xFF 0x40 [0xC9, 0x10] [])
      (fun t => (flags t)) = some (0x43) := by decide

/-- `CPX $10`: R202; 0-$FF=$01: C=0. -/
theorem test_cpxZp :
    after (start 0x00 0x00 0x00 0xFF 0x00 [0xE4, 0x10] [(0x0010, 0xFF)])
      (fun t => (flags t)) = some (0x00) := by decide

/-- `CPY #$00`: R203. -/
theorem test_cpyImm :
    after (start 0x00 0x00 0x00 0xFF 0x00 [0xC0, 0x00] [])
      (fun t => (flags t)) = some (0x03) := by decide

/-- `ADC #$01`: R205, R207; 9+1=10. -/
theorem test_adcImm_decimal :
    after (start 0x09 0x00 0x00 0xFF 0x08 [0x69, 0x01] [])
      (fun t => (t.a, flags t)) = some (0x10#8, 0x08) := by decide

/-- `SBC #$01`: R205, R208; 0-1 = 99 borrow: A=$99, C=0. -/
theorem test_sbcImm_decimal :
    after (start 0x00 0x00 0x00 0xFF 0x09 [0xE9, 0x01] [])
      (fun t => (t.a, flags t)) = some (0x99#8, 0x88) := by decide

/-- `ANC #$80`: R220; C = bit 7 of result. -/
theorem test_ancImm0B :
    after (start 0xFF 0x00 0x00 0xFF 0x00 [0x0B, 0x80] [])
      (fun t => (t.a, flags t)) = some (0x80#8, 0x81) := by decide

/-- `ANC #$7F ($2B)`: R220; C cleared. -/
theorem test_ancImm2B :
    after (start 0xFF 0x00 0x00 0xFF 0x01 [0x2B, 0x7F] [])
      (fun t => (t.a, flags t)) = some (0x7F#8, 0x00) := by decide

/-- `ASR #$03`: R222; ($FF&$03)>>1=$01, C=1. -/
theorem test_asr :
    after (start 0xFF 0x00 0x00 0xFF 0x00 [0x4B, 0x03] [])
      (fun t => (t.a, flags t)) = some (0x01#8, 0x01) := by decide

/-- `ARR #$FF`: R221; t=$C0, r=$E0: C=r6=1, V=r6^r5=0. -/
theorem test_arr :
    after (start 0xC0 0x00 0x00 0xFF 0x01 [0x6B, 0xFF] [])
      (fun t => (t.a, flags t)) = some (0xE0#8, 0x81) := by decide

/-- `SBX #$01`: R227; (A&X)-M=0: Z=1, C=1. -/
theorem test_sbx :
    after (start 0xFF 0x01 0x00 0xFF 0x00 [0xCB, 0x01] [])
      (fun t => (t.x, flags t)) = some (0x00#8, 0x03) := by decide

/-- `DCP $10`: R223; M=$10 then CMP: equal. -/
theorem test_dcpZp :
    after (start 0x10 0x00 0x00 0xFF 0x00 [0xC7, 0x10] [(0x0010, 0x11)])
      (fun t => (t.mem.read 0x0010, flags t)) = some (0x10#8, 0x03) := by decide

/-- `ISC $10`: R224; M=$10; A=$20-$10=$10. -/
theorem test_iscZp :
    after (start 0x20 0x00 0x00 0xFF 0x01 [0xE7, 0x10] [(0x0010, 0x0F)])
      (fun t => (t.mem.read 0x0010, t.a)) = some (0x10#8, 0x10#8) := by decide

/-- `RLA $10`: R225; M=$01, C=1; A=$01. -/
theorem test_rlaZp :
    after (start 0xFF 0x00 0x00 0xFF 0x01 [0x27, 0x10] [(0x0010, 0x80)])
      (fun t => (t.mem.read 0x0010, t.a)) = some (0x01#8, 0x01#8) := by decide

/-- `RRA $10`: R226; M=$01, C=1; A=$10+$01+1=$12. -/
theorem test_rraZp :
    after (start 0x10 0x00 0x00 0xFF 0x00 [0x67, 0x10] [(0x0010, 0x03)])
      (fun t => (t.mem.read 0x0010, t.a)) = some (0x01#8, 0x12#8) := by decide

/-- `SLO $10`: R228; M=$02, C=1; A=$03. -/
theorem test_sloZp :
    after (start 0x01 0x00 0x00 0xFF 0x00 [0x07, 0x10] [(0x0010, 0x81)])
      (fun t => (t.mem.read 0x0010, t.a)) = some (0x02#8, 0x03#8) := by decide

/-- `SRE $10`: R229; M=$01, C=1; A=$00, Z=1. -/
theorem test_sreZp :
    after (start 0x01 0x00 0x00 0xFF 0x00 [0x47, 0x10] [(0x0010, 0x03)])
      (fun t => (t.mem.read 0x0010, t.a)) = some (0x01#8, 0x00#8) := by decide

/-- `SLO ($10),Y`: R228, R230; IZY read/modify/write form. -/
theorem test_sloIzy :
    after (start 0x00 0x00 0x01 0xFF 0x00 [0x13, 0x10] [(0x0010, 0xFF), (0x0011, 0x20), (0x2100, 0x40)])
      (fun t => (t.mem.read 0x2100, t.a)) = some (0x80#8, 0x80#8) := by decide

/-- `INX`: R254; source example FF -> 00; C untouched. -/
theorem test_inx :
    after (start 0x00 0xFF 0x00 0xFF 0x01 [0xE8] [])
      (fun t => (t.x, flags t)) = some (0x00#8, 0x03) := by decide

/-- `INY`: R255; N=1, V untouched. -/
theorem test_iny :
    after (start 0x00 0x00 0x7F 0xFF 0x00 [0xC8] [])
      (fun t => (t.y, flags t)) = some (0x80#8, 0x80) := by decide

/-- `DEX`: R251; Z=1. -/
theorem test_dex :
    after (start 0x00 0x01 0x00 0xFF 0x00 [0xCA] [])
      (fun t => (t.x, flags t)) = some (0x00#8, 0x02) := by decide

/-- `DEY`: R252; source example 0 -> FF. -/
theorem test_dey :
    after (start 0x00 0x00 0x00 0xFF 0x00 [0x88] [])
      (fun t => (t.y, flags t)) = some (0xFF#8, 0x80) := by decide

/-- `INC $10`: R253; wraps, Z=1, A untouched. -/
theorem test_incZp :
    after (start 0x05 0x00 0x00 0xFF 0x00 [0xE6, 0x10] [(0x0010, 0xFF)])
      (fun t => (t.mem.read 0x0010, flags t)) = some (0x00#8, 0x02) := by decide

/-- `DEC $1234,X`: R250; wraps to $FF. -/
theorem test_decAbx :
    after (start 0x00 0x01 0x00 0xFF 0x00 [0xDE, 0x34, 0x12] [(0x1235, 0x00)])
      (fun t => (t.mem.read 0x1235, flags t)) = some (0xFF#8, 0x80) := by decide

/-- `JMP $1234`: R261. -/
theorem test_jmpAbs :
    after (start 0x00 0x00 0x00 0xFF 0x00 [0x4C, 0x34, 0x12] [])
      (fun t => (t.pc, flags t)) = some (0x1234#16, 0x00) := by decide

/-- `JSR $3000`: R263; pushes $0202 high byte first. -/
theorem test_jsr :
    after (start 0x00 0x00 0x00 0xFF 0x00 [0x20, 0x00, 0x30] [])
      (fun t => (t.pc, t.mem.read 0x01FE)) = some (0x3000#16, 0x02#8) := by decide

/-- `JSR $3000`: R263; S wraps between the two pushes. -/
theorem test_jsr_again :
    after (start 0x00 0x00 0x00 0x00 0x00 [0x20, 0x00, 0x30] [])
      (fun t => (t.pc, t.mem.read 0x01FF)) = some (0x3000#16, 0x02#8) := by decide

/-- `RTS`: R265; pulled $0202, +1. -/
theorem test_rts :
    after (start 0x00 0x00 0x00 0xFD 0x00 [0x60] [(0x01FE, 0x02), (0x01FF, 0x02)])
      (fun t => (t.pc, t.sp)) = some (0x0203#16, 0xFF#8) := by decide

/-- `RTS`: R265; $FFFF+1 wraps to $0000. -/
theorem test_rts_again :
    after (start 0x00 0x00 0x00 0xFD 0x00 [0x60] [(0x01FE, 0xFF), (0x01FF, 0xFF)])
      (fun t => (t.pc, t.sp)) = some (0x0000#16, 0xFF#8) := by decide

/-- `RTI`: R264; P=$C3: N V Z C set, I cleared; no +1. -/
theorem test_rti :
    after (start 0x00 0x00 0x00 0xFC 0x04 [0x40] [(0x01FD, 0xC3), (0x01FE, 0x34), (0x01FF, 0x12)])
      (fun t => (t.pc, t.sp)) = some (0x1234#16, 0xFF#8) := by decide

/-- `BRK`: R260; pushes $02,$02 (PC+2=$0202), then $33; I=1. -/
theorem test_brk :
    after (start 0x00 0x00 0x00 0xFF 0x03 [0x00] [(0xFFFE, 0x00), (0xFFFF, 0x80)])
      (fun t => (t.pc, t.mem.read 0x01FD)) = some (0x8000#16, 0x33#8) := by decide

/-- `BCC +4`: R281; not taken. -/
theorem test_bcc :
    after (start 0x00 0x00 0x00 0xFF 0x01 [0x90, 0x04] [])
      (fun t => (t.pc, flags t)) = some (0x0202#16, 0x01) := by decide

/-- `BCS +4`: R282; taken. -/
theorem test_bcs :
    after (start 0x00 0x00 0x00 0xFF 0x01 [0xB0, 0x04] [])
      (fun t => (t.pc, flags t)) = some (0x0206#16, 0x01) := by decide

/-- `BEQ +$7F`: R283; largest forward: $0202+127. -/
theorem test_beq :
    after (start 0x00 0x00 0x00 0xFF 0x02 [0xF0, 0x7F] [])
      (fun t => (t.pc, flags t)) = some (0x0281#16, 0x02) := by decide

/-- `BMI +2`: R284; taken. -/
theorem test_bmi :
    after (start 0x00 0x00 0x00 0xFF 0x80 [0x30, 0x02] [])
      (fun t => (t.pc, flags t)) = some (0x0204#16, 0x80) := by decide

/-- `BPL +2`: R286; not taken. -/
theorem test_bpl :
    after (start 0x00 0x00 0x00 0xFF 0x80 [0x10, 0x02] [])
      (fun t => (t.pc, flags t)) = some (0x0202#16, 0x80) := by decide

/-- `BVC +2`: R287; not taken. -/
theorem test_bvc :
    after (start 0x00 0x00 0x00 0xFF 0x40 [0x50, 0x02] [])
      (fun t => (t.pc, flags t)) = some (0x0202#16, 0x40) := by decide

/-- `BVS +2`: R288; taken. -/
theorem test_bvs :
    after (start 0x00 0x00 0x00 0xFF 0x40 [0x70, 0x02] [])
      (fun t => (t.pc, flags t)) = some (0x0204#16, 0x40) := by decide

/-- `CLC`: R289. -/
theorem test_clc :
    after (start 0x00 0x00 0x00 0xFF 0xCF [0x18] [])
      (fun t => (flags t)) = some (0xCE) := by decide

/-- `SEC`: R293. -/
theorem test_sec :
    after (start 0x00 0x00 0x00 0xFF 0x00 [0x38] [])
      (fun t => (flags t)) = some (0x01) := by decide

/-- `CLD`: R290. -/
theorem test_cld :
    after (start 0x00 0x00 0x00 0xFF 0xCF [0xD8] [])
      (fun t => (flags t)) = some (0xC7) := by decide

/-- `SED`: R294. -/
theorem test_sed :
    after (start 0x00 0x00 0x00 0xFF 0x00 [0xF8] [])
      (fun t => (flags t)) = some (0x08) := by decide

/-- `CLI`: R291. -/
theorem test_cli :
    after (start 0x00 0x00 0x00 0xFF 0xCF [0x58] [])
      (fun t => (flags t)) = some (0xCB) := by decide

/-- `SEI`: R295. -/
theorem test_sei :
    after (start 0x00 0x00 0x00 0xFF 0x00 [0x78] [])
      (fun t => (flags t)) = some (0x04) := by decide

/-- `CLV`: R292. -/
theorem test_clv :
    after (start 0x00 0x00 0x00 0xFF 0xCF [0xB8] [])
      (fun t => (flags t)) = some (0x8F) := by decide

/-- `NOP`: R301; nothing but PC changes. -/
theorem test_nop :
    after (start 0x01 0x02 0x03 0xFF 0xCF [0xEA] [])
      (fun t => (t.pc, flags t)) = some (0x0201#16, 0xCF) := by decide

/-- `NOP ($1A)`: R301; undocumented one-byte NOP. -/
theorem test_nop1A :
    after (start 0x00 0x00 0x00 0xFF 0x02 [0x1A] [])
      (fun t => (t.pc, flags t)) = some (0x0201#16, 0x02) := by decide

/-- `NOP #$FF`: R302; skips a byte. -/
theorem test_nopImm80 :
    after (start 0x00 0x00 0x00 0xFF 0x00 [0x80, 0xFF] [])
      (fun t => (t.pc, flags t)) = some (0x0202#16, 0x00) := by decide

/-- `JAM`: R300; halted; PC stays. -/
theorem test_jam02 :
    after (start 0x09 0x00 0x00 0xFF 0x00 [0x02] [])
      (fun t => (t.pc, t.halted)) = some (0x0200#16, true) := by decide

/-- `JAM ($F2)`: R300. -/
theorem test_jamF2 :
    after (start 0x00 0x00 0x00 0xFF 0x00 [0xF2] [])
      (fun t => (t.pc, t.halted)) = some (0x0200#16, true) := by decide

/-- XAA writes no C and no V, and moves on. -/
theorem test_xaa_keeps_carry_and_overflow :
    after (start 0x01 0xFF 0x00 0xFF 0x41 [0x8B, 0xFF] []) (fun t => (t.p.c, t.p.v, t.pc)) =
      some (true, true, 0x0202#16) := by decide

/-! ### Interrupts, reset, the halted state (section 2.12) -/

/-- A state with one sample of the inputs at the boundary. -/
def sampled (reset nmi irq : Bool) (s : State) : State := { s with inputs := [{ reset := reset, nmi := nmi, irq := irq }] }

theorem test_irq_pushes_status :
    after (sampled false false true (start 0 0 0 0xFF 0x81 [] [(0xFFFE, 0x00), (0xFFFF, 0x90)]))
      (fun t => (t.pc, t.mem.read 0x01FD)) = some (0x9000#16, 0xA1#8) := by decide

theorem test_irq_masked :
    after (sampled false false true (start 0 0 0 0xFF 0x04 [0xEA] [])) (fun t => (t.pc, t.sp)) =
      some (0x0201#16, 0xFF#8) := by decide

theorem test_nmi_ignores_i_and_wraps_the_stack :
    after { start 0 0 0 0x01 0x4C [] [(0xFFFA, 0x34), (0xFFFB, 0x12)] with nmiPending := true }
      (fun t => (t.pc, t.mem.read 0x01FF, t.nmiPending)) = some (0x1234#16, 0x6C#8, false) := by decide

theorem test_nmi_before_irq :
    after (sampled false true true (start 0 0 0 0xFF 0x00 [] [(0xFFFA, 0x00), (0xFFFB, 0x80)])) (fun t => t.pc) =
      some 0x8000#16 := by decide

theorem test_halted_takes_no_interrupt :
    after { sampled false true true (start 0 0 0 0xFF 0x00 [0x02] []) with halted := true }
      (fun t => (t.halted, t.pc, t.sp, t.nmiPending)) = some (true, 0x0200#16, 0xFF#8, true) := by decide

theorem test_reset_ends_the_halt :
    after { sampled true true true (start 0 0 0 0x80 0x00 [] [(0xFFFC, 0x00), (0xFFFD, 0xE0)]) with halted := true }
      (fun t => (t.halted, t.pc, t.p.i, t.nmiPending)) = some (false, 0xE000#16, true, false) := by decide

/-- `State.reset` with nothing placed runs BRK at $0000. -/
theorem test_first_step_from_reset : after State.reset (fun t => (t.pc, t.sp, t.p.i)) =
    some (0x0000#16, 0xFD#8, true) := by decide

/-- The host's placement runs the table word, as the first instruction after reset. -/
theorem test_with_fetch_word :
    after (State.reset.withFetchWord 24 0x1234AD) (fun t => (t.pc, t.cycles)) = some (0x0003#16, 4) ∧
      after (State.reset.withFetchWord 8 0x38) (fun t => (t.pc, t.p.c)) = some (0x0001#16, true) := by decide

/-- The assembler form of the operand (`30_encoding.md` R82). -/
theorem test_assembly :
    assembly 0x0200#16 (.ldaIzy 0x20#8) = "LDA ($20),Y".toList ∧ assembly 0x0200#16 .aslAcc = "ASL A".toList ∧
      assembly 0x0200#16 (.bne 0xFA#8) = "BNE $01FC".toList := by decide

/-! ### Witnesses: for each statement with hypotheses, a state and operands that meet them, at boundary values -/

/-- A memory map with every kind of region; the rest is RAM. -/
def fourKinds : List Region :=
  [{ first := 0xC000, last := 0xCFFF, kind := .unmapped }, { first := 0xD000, last := 0xDFFF, kind := .device },
    { first := 0xE000, last := 0xFFFF, kind := .rom }]

/-- A state with that map, whose code is at $0200. -/
def mapped (code : List Nat) (cells : List (Nat × Nat)) : State := { start 0 0 0 0xFF 0 code cells with map := fourKinds }

theorem witness_EncodeWritesBackEveryDecoding :
    decode [0x8D#8, 0xFF#8, 0xFF#8, 0x00#8] = .ok (.staAbs 0xFFFF#16, [0x00#8]) ∧
      decode [0xA9#8, 0xFF#8] = .ok (.ldaImm 0xFF#8, []) ∧ decode [0x00#8] = .ok (.brk, []) := by decide

theorem witness_BranchOffsetReachesTarget :
    branchOffset 0xFFFE#16 0x007F#16 = some 0x7F#8 ∧ branchOffset 0x0000#16 0xFF82#16 = some 0x80#8 := by decide

/-- An instruction of three bytes across the end of memory, and one of one byte, with IRQ asserted but masked. -/
theorem witness_StepRunsTheDecodedInstruction :
    let s := { sampled false false true (start 0 0 0 0xFF 0x04 [] [(0xFFFF, 0x8D), (0x0000, 0x34), (0x0001, 0x12)]) with
      pc := 0xFFFF#16 }
    s.quiet ∧ (∀ k < 3, s.stored (s.pc + BitVec.ofNat 16 k)) ∧
      decode ((List.range 3).map fun k => s.mem.read (s.pc + BitVec.ofNat 16 k).toNat) =
        .ok (.staAbs 0x1234#16, []) := by
  refine ⟨?_, fun _ _ => .inl rfl, by decide⟩
  unfold State.quiet
  decide

theorem witness_MaskedIrqIsNotSeen :
    let s := sampled false false true (start 0 0 0 0xFF 0x04 [0xEA] [])
    s.p.i = true ∧ s.sample.irq = true := by decide

theorem witness_OnlyJamHaltsAndOnlyResetEndsIt_halted :
    let s := { sampled false true true State.reset with halted := true }
    s.halted = true ∧ s.sample.reset = false := by decide

theorem witness_OnlyJamHaltsAndOnlyResetEndsIt_reset :
    let s := { sampled true true true State.reset with halted := true }
    s.sample.reset = true := by decide

theorem witness_OnlyJamHaltsAndOnlyResetEndsIt_jam :
    after (start 0 0 0 0xFF 0 [0x02] []) (fun t => t.halted) = some true ∧
      (start 0 0 0 0xFF 0 [0x02] []).halted = false := by decide

/-- Both ends of each region, and its neighbours. -/
theorem witness_BusAccessByRegionKind :
    ([0x0000#16, 0xBFFF#16, 0xC000#16, 0xCFFF#16, 0xD000#16, 0xDFFF#16, 0xE000#16, 0xFFFF#16].map (kindAt fourKinds)) =
      [.ram, .ram, .unmapped, .unmapped, .device, .device, .rom, .rom] := by decide

theorem witness_ReadAfterWriteGivesTheByte :
    let s := mapped [] [(0xFFFF, 0x77)]
    s.mem.wf ∧ kindAt s.map 0xBFFF#16 = .ram ∧ kindAt s.map 0xFFFF#16 = .rom ∧ kindAt s.map 0x0000#16 = .ram := by decide

theorem witness_StepKeepsMemoryCanonical :
    let s := start 0xAA 0 0 0xFF 0 [0x8D, 0xFF, 0xFF] []
    s.mem.wf ∧ after s (fun t => t.mem.read 0xFFFF) = some 0xAA#8 := by decide

theorem witness_StepChangesOnlyRam :
    let s := mapped [0x8D, 0x00, 0xE0] []
    after s (fun t => t.pc) = some 0x0203#16 ∧ kindAt s.map 0xE000#16 ≠ .ram ∧ kindAt s.map 0xC000#16 ≠ .ram ∧
      kindAt s.map 0xDFFF#16 ≠ .ram := by decide

theorem witness_InstructionsStoreOnlyWhereTheyName :
    let s := start 0 0 0 0x00 0 [] []
    exec (.jsr 0x1234#16) s = .next (jsr 0x1234#16 s) ∧ 0x01FE#16 ∉ storedAddresses (.jsr 0x1234#16) s ∧
      0x01FF#16 ∈ storedAddresses (.jsr 0x1234#16) s ∧ 0x0100#16 ∈ storedAddresses (.jsr 0x1234#16) s ∧
      0x0011#16 ∈ storedAddresses (.incZp 0x11#8) s ∧ 0x0012#16 ∉ storedAddresses (.incZp 0x11#8) s := by
  refine ⟨rfl, ?_⟩
  decide

theorem witness_RegistersWrittenOnlyAsListed (s : State) :
    exec (.staZp 0x10#8) s = .next (sta (.zp 0x10#8) s) ∧ writesA (.staZp 0x10#8) = false ∧
      writesX (.staZp 0x10#8) = false ∧ writesY (.staZp 0x10#8) = false ∧ writesS (.staZp 0x10#8) = false ∧
      (Instr.staZp 0x10#8).mnemonic ≠ .jam := by
  refine ⟨rfl, ?_⟩
  decide +revert

theorem witness_FlagsWrittenOnlyAsTabled :
    exec .sec State.reset = .next (writeFlags { State.reset.p with c := true } State.reset) ∧
      (flagRow .sec).c = .one ∧ (flagRow .sec).n = .keeps := by
  refine ⟨rfl, ?_⟩
  decide

theorem witness_DecimalFlagChangesOnlyBySoftware :
    after (start 0 0 0 0xFF 0 [0xF8] []) (fun t => t.p.d) = some true ∧
      after (start 0 0 0 0xFF 0x08 [0x00] []) (fun t => t.p.d) = some true := by decide

theorem witness_PcMovesPastTheInstruction :
    (Instr.staAbs 0x1234#16).mnemonic ∉ transfers ∧
      (match exec (.staAbs 0x1234#16) { State.reset with pc := 0xFFFE#16 } with
        | .next t => t.pc
        | _ => 0xFFFF#16) = 0x0001#16 := by decide

theorem witness_RunsFromWellFormedStatesAreSafe :
    (start 0 0 0 0xFF 0 [0x4C, 0x00, 0x02] [(0xFFFF, 0x01)]).wf := by
  unfold State.wf
  decide

/-- A pointer at $FF, so that its high byte is at $00, for both pointer modes. -/
theorem witness_PointerModesComputeTheirAddress :
    let s := start 0 0x01 0 0xFF 0 [] [(0x00FF, 0xF0), (0x0000, 0x30)]
    s.stored ((0xFE#8 + s.x).setWidth 16) ∧ s.stored ((0xFE#8 + s.x + 1).setWidth 16) ∧
      s.stored ((0xFF#8).setWidth 16) ∧ s.stored ((0xFF#8 + 1).setWidth 16) :=
  ⟨.inl rfl, .inl rfl, .inl rfl, .inl rfl⟩

theorem witness_PushAndPullUseTheStackSlot :
    let s := start 0 0 0 0x00 0 [] []
    s.mem.wf ∧ kindAt s.map (0x0100#16 + s.sp.setWidth 16) = .ram := by decide

theorem witness_LoadsWriteTheirRegisters :
    (Instr.ldaImm 0xFF#8).operand = (Source.imm 0xFF#8).operand ∧ (Instr.ldaImm 0xFF#8).mnemonic = .lda ∧
      (Instr.ldxZpy 0xFF#8).operand = (Source.mem (.zpy 0xFF#8)).operand ∧ (Instr.ldxZpy 0xFF#8).mnemonic = .ldx ∧
      (Instr.ldyAbx 0xFFFF#16).operand = (Source.mem (.abx 0xFFFF#16)).operand ∧
      (Instr.ldyAbx 0xFFFF#16).mnemonic = .ldy ∧
      (Instr.laxImm 0x00#8).operand = (Source.imm 0x00#8).operand ∧ (Instr.laxImm 0x00#8).mnemonic = .lax ∧
      (Instr.las 0xFFFF#16).operand = (Source.mem (.aby 0xFFFF#16)).operand ∧
      (Instr.las 0xFFFF#16).mnemonic = .las := by decide

theorem witness_StoresWriteOneByte :
    (Instr.staIzy 0xFF#8).operand = .memory (.izy 0xFF#8) ∧ (Instr.staIzy 0xFF#8).mnemonic = .sta ∧
      (Instr.stxZpy 0xFF#8).operand = .memory (.zpy 0xFF#8) ∧ (Instr.stxZpy 0xFF#8).mnemonic = .stx ∧
      (Instr.styAbs 0xFFFF#16).operand = .memory (.abs 0xFFFF#16) ∧ (Instr.styAbs 0xFFFF#16).mnemonic = .sty ∧
      (Instr.saxIzx 0xFF#8).operand = .memory (.izx 0xFF#8) ∧ (Instr.saxIzx 0xFF#8).mnemonic = .sax := by decide

theorem witness_ShiftsWriteBackAndSetCarry :
    Instr.rorAcc.mnemonic ∈ [Mnemonic.asl, .lsr, .rol, .ror] ∧ Instr.rorAcc.operand = .accumulator ∧
      (Instr.aslAbx 0xFFFF#16).mnemonic ∈ [Mnemonic.asl, .lsr, .rol, .ror] ∧
      (Instr.aslAbx 0xFFFF#16).operand = .memory (.abx 0xFFFF#16) := by decide

theorem witness_LogicCombinesWithAccumulator :
    (Instr.andImm 0xFF#8).operand = (Source.imm 0xFF#8).operand ∧ (Instr.andImm 0xFF#8).mnemonic = .and ∧
      (Instr.eorIzx 0xFF#8).operand = (Source.mem (.izx 0xFF#8)).operand ∧ (Instr.eorIzx 0xFF#8).mnemonic = .eor ∧
      (Instr.oraZp 0x00#8).operand = (Source.mem (.zp 0x00#8)).operand ∧ (Instr.oraZp 0x00#8).mnemonic = .ora ∧
      (Instr.bitAbs 0xFFFF#16).operand = (Source.mem (.abs 0xFFFF#16)).operand ∧
      (Instr.bitAbs 0xFFFF#16).mnemonic = .bit := by decide

theorem witness_DecimalModeAddsAndSubtractsBcd : 99 < 100 ∧ 0 < 100 ∧ bcd 99 = 0x99#8 ∧ bcd 0 = 0x00#8 := by decide

theorem witness_AddAndSubtractByEveryMode :
    (Instr.adcIzy 0xFF#8).operand = (Source.mem (.izy 0xFF#8)).operand ∧ (Instr.adcIzy 0xFF#8).mnemonic = .adc ∧
      (Instr.sbcImmEB 0xFF#8).operand = (Source.imm 0xFF#8).operand ∧ (Instr.sbcImmEB 0xFF#8).mnemonic = .sbc := by decide

theorem witness_ComparesWriteOnlyFlags :
    (Instr.cmpAby 0xFFFF#16).operand = (Source.mem (.aby 0xFFFF#16)).operand ∧
      (Instr.cmpAby 0xFFFF#16).mnemonic = .cmp ∧
      (Instr.cpxImm 0xFF#8).operand = (Source.imm 0xFF#8).operand ∧ (Instr.cpxImm 0xFF#8).mnemonic = .cpx ∧
      (Instr.cpyZp 0x00#8).operand = (Source.mem (.zp 0x00#8)).operand ∧ (Instr.cpyZp 0x00#8).mnemonic = .cpy := by decide

theorem witness_UndocumentedImmediateArithmetic :
    Instr.ancImm0B 0xFF#8 ∈ [Instr.ancImm0B 0xFF#8, .ancImm2B 0xFF#8] ∧
      Instr.ancImm2B 0xFF#8 ∈ [Instr.ancImm0B 0xFF#8, .ancImm2B 0xFF#8] := by decide

theorem witness_ReadModifyWritePairs :
    (Instr.dcpIzx 0xFF#8).operand = .memory (.izx 0xFF#8) ∧ (Instr.dcpIzx 0xFF#8).mnemonic = .dcp ∧
      (Instr.iscAbx 0xFFFF#16).operand = .memory (.abx 0xFFFF#16) ∧ (Instr.iscAbx 0xFFFF#16).mnemonic = .isc ∧
      (Instr.rlaZp 0x00#8).operand = .memory (.zp 0x00#8) ∧ (Instr.rlaZp 0x00#8).mnemonic = .rla ∧
      (Instr.rraIzy 0xFF#8).operand = .memory (.izy 0xFF#8) ∧ (Instr.rraIzy 0xFF#8).mnemonic = .rra ∧
      (Instr.sloAby 0xFFFF#16).operand = .memory (.aby 0xFFFF#16) ∧ (Instr.sloAby 0xFFFF#16).mnemonic = .slo ∧
      (Instr.sreZpx 0xFF#8).operand = .memory (.zpx 0xFF#8) ∧ (Instr.sreZpx 0xFF#8).mnemonic = .sre := by decide

theorem witness_IncrementsAndDecrementsWrap :
    (Instr.incZpx 0xFF#8).operand = .memory (.zpx 0xFF#8) ∧ (Instr.incZpx 0xFF#8).mnemonic = .inc ∧
      (Instr.decAbx 0xFFFF#16).operand = .memory (.abx 0xFFFF#16) ∧ (Instr.decAbx 0xFFFF#16).mnemonic = .dec := by decide

/-- The pointer at the end of a page: its high byte is at the start of the same page. -/
theorem witness_JumpsSetPc :
    let s := mapped [] [(0xFF00, 0x12), (0xFFFF, 0x34)]
    s.stored 0xFFFF#16 ∧ s.stored (BitVec.ofNat 16 (0xFFFF / 256 * 256 + (0xFFFF + 1) % 256)) ∧
      exec (.jmpInd 0xFFFF#16) s = .next (jmpIndirect 0xFFFF#16 s) ∧ (jmpIndirect 0xFFFF#16 s).pc = 0x1234#16 := by
  refine ⟨.inr rfl, .inr rfl, rfl, ?_⟩
  decide

theorem witness_ReturnAfterCallComesBack :
    let s := start 0 0 0 0x00 0 [] []
    s.mem.wf ∧ kindAt s.map (stackSlot s 0) = .ram ∧ kindAt s.map (stackSlot s 1) = .ram := by decide

theorem witness_JamHaltsAndNopOnlyMovesOn :
    Instr.jamF2.mnemonic = .jam ∧ Instr.nopFA.mnemonic = .nop ∧ Instr.nopFA.operand = .implied ∧
      (Instr.nopAbx1C 0xFFFF#16).mnemonic = .nop ∧
      (Instr.nopAbx1C 0xFFFF#16).operand = (Source.mem (.abx 0xFFFF#16)).operand ∧
      (Instr.nopImm80 0xFF#8).mnemonic = .nop ∧ (Instr.nopImm80 0xFF#8).operand = (Source.imm 0xFF#8).operand := by decide

theorem witness_InterruptsEnterThroughTheirVectors_nmi :
    let s := sampled false true true State.reset
    s.sample.reset = false ∧ s.halted = false ∧ s.nmiPending = false ∧ s.sample.nmi = true := by decide

theorem witness_InterruptsEnterThroughTheirVectors_latched :
    let s := { State.reset with nmiPending := true }
    s.sample.reset = false ∧ s.halted = false ∧ s.nmiPending = true := by decide

theorem witness_InterruptsEnterThroughTheirVectors_irq :
    let s := sampled false false true (start 0 0 0 0xFF 0 [] [])
    s.sample.reset = false ∧ s.halted = false ∧ s.nmiPending = false ∧ s.sample.nmi = false ∧ s.sample.irq = true ∧
      s.p.i = false := by decide

/-- S = $01, so that the third push wraps; the vector at the end of memory. -/
theorem witness_InterruptSequenceSavesPcAndStatus :
    let s := mapped [] [(0xFFFE, 0x34), (0xFFFF, 0x12)]
    let u := { s with sp := 0x01#8 }
    u.mem.wf ∧ stackRam u ∧ u.stored 0xFFFE#16 ∧ u.stored (0xFFFE#16 + 1) ∧ (0xFFFE#16).toNat ≥ 0xFFFA ∧
      u.stored 0xFFFA#16 ∧ u.stored (0xFFFA#16 + 1) := by
  refine ⟨by decide, ⟨by decide, by decide, by decide⟩, .inr rfl, .inr rfl, by decide, .inr rfl, .inr rfl⟩

theorem witness_ReturnFromInterruptRestores :
    let s := start 0 0 0 0x01 0xCF [] []
    s.mem.wf ∧ stackRam s := by
  refine ⟨by decide, by decide, by decide, by decide⟩

theorem witness_ResetSequenceLeaves :
    let s := { sampled true true true (mapped [] [(0xFFFC, 0x00), (0xFFFD, 0xE0)]) with halted := true }
    s.sample.reset = true ∧ s.stored 0xFFFC#16 ∧ s.stored 0xFFFD#16 :=
  ⟨rfl, .inr rfl, .inr rfl⟩

theorem witness_OperandReadIsTheOneReadOfItsAddress :
    let s := start 0 0 0xFF 0xFF 0 [] [(0x00FF, 0xFF), (0x0000, 0xFF), (0x00FE, 0x5A)]
    s.stored (locate (.izy 0xFF#8) s).ea ∧ (locate (.izy 0xFF#8) s).ea = 0x00FE#16 ∧
      (fetchSource (.mem (.izy 0xFF#8)) s).value = 0x5A#8 ∧ (fetchSource (.mem (.izy 0xFF#8)) s).crossed = true :=
  ⟨.inl (by decide), by decide, by decide, by decide⟩

end Sys2Proof.Tests
end

section
/-! The family of `40_addressing.md`: N and Z of a byte (R115). -/

namespace Sys2Proof.Machine

/-- Bit 7 of a byte is its sign bit: it is set from $80 on. -/
theorem Byte.getLsbD_seven (v : Byte) : v.getLsbD 7 = decide (v.toNat ≥ 128) :=
  calc v.getLsbD 7
    _ = v.msb := v.msb_eq_getLsbD_last.symm
    _ = decide (v.toNat ≥ 128) := v.msb_eq_decide

theorem Byte.beq_zero (v : Byte) : (v == 0x00#8) = decide (v.toNat = 0) := by
  have hzero : v = 0x00#8 ↔ v.toNat = 0 := BitVec.toNat_inj.symm
  rw [beq_eq_decide, decide_eq_decide.mpr hzero]

/-- `SetNZ` on P with both flags read off the byte as a number. -/
theorem Status.setNZ_eq (p : Status) (v : Byte) :
    p.setNZ v = { p with n := decide (v.toNat ≥ 128), z := decide (v.toNat = 0) } := by
  rw [Status.setNZ, Byte.getLsbD_seven, Byte.beq_zero]

/-- `SetNZ` on the state is `SetNZ` on P and keeps every other field. -/
theorem State.setNZ_eq (s : State) (v : Byte) : s.setNZ v = { s with p := s.p.setNZ v } := rfl

end Sys2Proof.Machine

namespace Sys2Proof.Proofs

open Sys2Proof.Machine

/-- Settles O26: the frame is `State.setNZ_eq`, the two flags are `Status.setNZ_eq`. -/
theorem setNzCopiesBitSevenAndTestsZero : Obligations.SetNzCopiesBitSevenAndTestsZero := by
  intro s v
  rw [State.setNZ_eq, Status.setNZ_eq]

end Sys2Proof.Proofs
end

section
/-! The family of `42_transfer_stack.md`: the register transfers (R161 to R166). -/

namespace Sys2Proof.Claims

open Sys2Proof.Machine

/-- The claims' N and Z are the model's `SetNZ` on P. -/
theorem nz_eq_setNZ (p : Status) (v : Byte) : nz p v = p.setNZ v := by
  rw [nz, Status.setNZ, beq_eq_decide]

/-- The claims' end of an instruction is the model's `finish` past its encoding. -/
theorem ends_eq_finish (i : Instr) (cycles : Nat) (s : State) :
    ends i cycles s = s.finish (encode i).length cycles := rfl

/-- An instruction without operand bytes ends one byte on. -/
theorem ends_of_implied {i : Instr} (hi : i.operand = .implied) (cycles : Nat) (s : State) :
    ends i cycles s = s.finish 1 cycles := by
  rw [ends_eq_finish, encode, hi]
  rfl

/-- The same after `SetNZ`: P has N and Z of the byte and the rest is as the instruction left it. -/
theorem ends_nz_of_implied {i : Instr} (hi : i.operand = .implied) (cycles : Nat) (s : State) (v : Byte) :
    ends i cycles { s with p := nz s.p v } = (s.setNZ v).finish 1 cycles := by
  rw [ends_of_implied hi, nz_eq_setNZ, State.setNZ_eq]

end Sys2Proof.Claims

namespace Sys2Proof.Proofs

open Sys2Proof.Machine Sys2Proof.Claims

/-- What exec answers for an implied instruction whose meaning sets registers, giving `t`, then N and Z from `v`. -/
theorem exec_implied_setNZ {i : Instr} {s t : State} {v : Byte} {cycles : Nat} (hi : i.operand = .implied)
    (hm : meaning i.mnemonic i.operand s = (t.setNZ v).finish 1 cycles) :
    exec i s = .next (ends i cycles { t with p := nz t.p v }) := by
  rw [exec_eq_meaning, hm, ends_nz_of_implied hi]

/-- What exec answers for an implied instruction whose meaning only sets registers, giving `t`. -/
theorem exec_implied {i : Instr} {s t : State} {cycles : Nat} (hi : i.operand = .implied)
    (hm : meaning i.mnemonic i.operand s = t.finish 1 cycles) : exec i s = .next (ends i cycles t) := by
  rw [exec_eq_meaning, hm, ends_of_implied hi]

/-- Settles O31: the five transfers with flags are `exec_implied_setNZ` at the register each writes, and TXS, which
writes no flag, is `exec_implied`. -/
theorem transfersCopyRegisters : Obligations.TransfersCopyRegisters := by
  refine ⟨rfl, rfl, rfl, rfl, rfl, rfl, fun s => ⟨?tax, ?tay, ?tsx, ?txa, ?txs, ?tya⟩⟩
  case tax => exact exec_implied_setNZ (t := s.setX s.a) rfl rfl
  case tay => exact exec_implied_setNZ (t := s.setY s.a) rfl rfl
  case tsx => exact exec_implied_setNZ (t := s.setX s.sp) rfl rfl
  case txa => exact exec_implied_setNZ (t := s.setA s.x) rfl rfl
  case txs => exact exec_implied (t := s.setSp s.x) rfl rfl
  case tya => exact exec_implied_setNZ (t := s.setA s.y) rfl rfl

end Sys2Proof.Proofs
end

section
/-! The family of `30_encoding.md`: the opcode map, the encoder and the decoder agree (R70, R71, R75, R77, R79), and the
assembler's displacement (R82). -/

namespace Sys2Proof.Machine

/-- A word is its high byte and its low byte put together. -/
@[simp] theorem word_hiByte_loByte (w : Word) : word (hiByte w) (loByte w) = w :=
  (BitVec.extractLsb'_append_extractLsb'_eq_extractLsb' rfl).trans BitVec.extractLsb'_eq_self

@[simp] theorem hiByte_word (hi lo : Byte) : hiByte (word hi lo) = hi := BitVec.extractLsb'_append_eq_left

@[simp] theorem loByte_word (hi lo : Byte) : loByte (word hi lo) = lo := BitVec.extractLsb'_append_eq_right

theorem sext16_eq_ofInt (r : Byte) : sext16 r = BitVec.ofInt 16 r.toInt := rfl

theorem toInt_sext16 (r : Byte) : (sext16 r).toInt = r.toInt := BitVec.toInt_signExtend_of_le (by omega)

theorem Byte.toInt_bounds (r : Byte) : -128 ≤ r.toInt ∧ r.toInt ≤ 127 := by
  have hl := r.le_toInt
  have hu := r.toInt_lt
  omega

/-- A signed number that fits a byte is that byte, sign-extended. -/
theorem sext16_ofInt {w : Word} (hl : -128 ≤ w.toInt) (hu : w.toInt ≤ 127) :
    sext16 (BitVec.ofInt 8 w.toInt) = w := by
  rw [sext16_eq_ofInt, BitVec.toInt_ofInt_eq_self (by omega) (by omega) (by omega), BitVec.ofInt_toInt]

/-- A branch reaches a target exactly when its displacement, sign-extended, is the distance from the next
instruction. -/
theorem branchTarget_eq_iff (addr target : Word) (r : Byte) :
    branchTarget addr r = target ↔ sext16 r = target - (addr + 2) := by
  unfold branchTarget
  constructor
  · rintro rfl
    rw [BitVec.add_comm (addr + 2), BitVec.add_sub_cancel]
  · intro h
    rw [h, BitVec.add_comm, BitVec.sub_add_cancel]

theorem branchOffset_eq_some_iff (addr target : Word) (r : Byte) :
    branchOffset addr target = some r ↔ sext16 r = target - (addr + 2) := by
  simp only [branchOffset]
  generalize target - (addr + 2) = w
  constructor
  · intro h
    split at h
    · obtain rfl := Option.some.inj h
      exact sext16_ofInt (by omega) (by omega)
    · cases h
  · rintro rfl
    rw [toInt_sext16, if_pos (Byte.toInt_bounds r), BitVec.ofInt_toInt]

end Sys2Proof.Machine

namespace Sys2Proof

open Machine Claims

/-- The one-byte operand of an operand of format F2; 0 where there is none. -/
def Operand.byte : Operand → Byte
  | .immediate d => d
  | .memory (.zp b) | .memory (.zpx b) | .memory (.zpy b) | .memory (.izx b) | .memory (.izy b) => b
  | .relative r => r
  | _ => 0x00#8

/-- The 16-bit operand of an operand of format F3; 0 where there is none. -/
def Operand.wide : Operand → Word
  | .memory (.abs w) | .memory (.abx w) | .memory (.aby w) => w
  | .indirect w => w
  | _ => 0x0000#16

/-- The instruction of a form, given a value for the operand that its format takes. -/
def Form.fill : Form → Byte → Word → Instr
  | .f1 i, _, _ => i
  | .f2 k, b, _ => k b
  | .f3 k, _, w => k w

/-- The operand bytes of a form, given a value for the operand that its format takes. -/
def Form.operands : Form → Byte → Word → List Byte
  | .f1 _, _, _ => []
  | .f2 _, b, _ => [b]
  | .f3 _, _, w => [loByte w, hiByte w]

/-- An instruction is the form of its opcode, filled with its operand. -/
theorem fill_opcodeForm_opcode (i : Instr) : (opcodeForm i.opcode).fill i.operand.byte i.operand.wide = i := by
  cases i <;> rfl

/-- Whatever fills a form, the encoding is the form's opcode and its operand bytes; mnemonic and mode are the form's
own. -/
def Form.Uniform (f : Form) : Prop :=
  ∀ b w, encode (f.fill b w) = (formInstr f).opcode :: f.operands b w ∧
    (f.fill b w).mnemonic = (formInstr f).mnemonic ∧ (f.fill b w).operand.mode = (formInstr f).operand.mode

/-- Every entry of the opcode map is uniform (R71). -/
theorem opcodeMap_uniform : ∀ f ∈ opcodeMap, f.Uniform := by
  simp only [opcodeMap, opcodeRow0, opcodeRow1, opcodeRow2, opcodeRow3, opcodeRow4, opcodeRow5, opcodeRow6, opcodeRow7,
    opcodeRow8, opcodeRow9, opcodeRowA, opcodeRowB, opcodeRowC, opcodeRowD, opcodeRowE, opcodeRowF,
    List.forall_mem_append, List.forall_mem_cons, List.not_mem_nil, false_imp_iff, implies_true, and_true]
  and_intros <;> exact fun _ _ => ⟨rfl, rfl, rfl⟩

theorem opcodeForm_uniform (op : Byte) : (opcodeForm op).Uniform := opcodeMap_uniform _ (List.getElem_mem _)

/-- Every opcode stands at its own place in the opcode map (R77). -/
theorem opcode_formInstr (op : Byte) : (formInstr (opcodeForm op)).opcode = op := by
  revert op
  decide +kernel

/-- A filled form of the opcode map is encoded as its opcode and its operand bytes. -/
theorem encode_fill (op b : Byte) (w : Word) :
    encode ((opcodeForm op).fill b w) = op :: (opcodeForm op).operands b w := by
  obtain ⟨he, -, -⟩ := opcodeForm_uniform op b w
  rwa [opcode_formInstr] at he

/-- An instruction is encoded as its opcode and the operand bytes that the opcode's form has. -/
theorem encode_eq_operands (i : Instr) :
    encode i = i.opcode :: (opcodeForm i.opcode).operands i.operand.byte i.operand.wide := by
  have h := encode_fill i.opcode i.operand.byte i.operand.wide
  rwa [fill_opcodeForm_opcode] at h

/-- Format F1: the opcode alone is read. -/
theorem decode_f1 {op : Byte} {i : Instr} (h : opcodeForm op = .f1 i) (rest : List Byte) :
    decode (op :: rest) = .ok (i, rest) := by
  simp only [decode, h]

/-- Format F2: one operand byte is read. -/
theorem decode_f2 {op : Byte} {k : Byte → Instr} (h : opcodeForm op = .f2 k) (b : Byte) (rest : List Byte) :
    decode (op :: b :: rest) = .ok (k b, rest) := by
  simp only [decode, h]

/-- Format F3: two operand bytes are read, the low byte first. -/
theorem decode_f3 {op : Byte} {k : Word → Instr} (h : opcodeForm op = .f3 k) (lo hi : Byte) (rest : List Byte) :
    decode (op :: lo :: hi :: rest) = .ok (k (word hi lo), rest) := by
  simp only [decode, h]

/-- The decoder takes as many operand bytes as the opcode's form has, and no more. -/
theorem decode_operands (op b : Byte) (w : Word) (rest : List Byte) :
    decode (op :: ((opcodeForm op).operands b w ++ rest)) = .ok ((opcodeForm op).fill b w, rest) := by
  cases h : opcodeForm op with
  | f1 i => exact decode_f1 h rest
  | f2 k => exact decode_f2 h b rest
  | f3 k =>
    have hd := decode_f3 h (loByte w) (hiByte w) rest
    rwa [word_hiByte_loByte] at hd

/-- What decodes begins with an opcode and the operand bytes of its form. -/
theorem decode_eq_ok {bytes rest : List Byte} {i : Instr} (h : decode bytes = .ok (i, rest)) :
    ∃ op b w, bytes = op :: ((opcodeForm op).operands b w ++ rest) ∧ i = (opcodeForm op).fill b w := by
  unfold decode at h
  split at h
  · cases h
  next op tail =>
    refine ⟨op, ?_⟩
    split at h
    next hf =>
      cases h
      rw [hf]
      exact ⟨0, 0, rfl, rfl⟩
    next b _ hf =>
      cases h
      rw [hf]
      exact ⟨b, 0, rfl, rfl⟩
    next lo hi _ hf =>
      cases h
      rw [hf]
      exact ⟨0, word hi lo, by simp [Form.operands], rfl⟩
    all_goals cases h

theorem operands_length_le (f : Form) (b : Byte) (w : Word) : (f.operands b w).length ≤ 2 := by
  cases f <;> simp [Form.operands]

end Sys2Proof

namespace Sys2Proof.Proofs

open Sys2Proof.Machine Sys2Proof.Claims

/-- Settles O1: the encoding is the opcode and the operand bytes of its form, which the decoder fills into the form
again. -/
theorem decodeReadsBackEveryEncoding : Obligations.DecodeReadsBackEveryEncoding := by
  intro i rest
  rw [encode_eq_operands, List.cons_append, decode_operands, fill_opcodeForm_opcode]

/-- Settles O2: what decodes is a filled form of the opcode map, whose encoding are the bytes it was read from. -/
theorem encodeWritesBackEveryDecoding : Obligations.EncodeWritesBackEveryDecoding := by
  intro bytes rest i h
  obtain ⟨op, b, w, rfl, rfl⟩ := decode_eq_ok h
  rw [encode_fill, List.cons_append]

/-- Settles O3: the mnemonic and the mode are those of the opcode's entry in the map, the length that of its format. -/
theorem opcodeAloneDecidesTheForm : Obligations.OpcodeAloneDecidesTheForm := by
  intro op
  have hlen := operands_length_le (opcodeForm op) 0 0
  refine ⟨(formInstr (opcodeForm op)).mnemonic, (formInstr (opcodeForm op)).operand.mode,
    ((opcodeForm op).operands 0 0).length + 1, by omega, fun b1 b2 => ?_⟩
  obtain ⟨-, hm, ho⟩ := opcodeForm_uniform op b1 (word b2 b1)
  have he := encode_fill op b1 (word b2 b1)
  refine ⟨(opcodeForm op).fill b1 (word b2 b1), ?_, List.head_eq_of_cons_eq he, hm, ho, ?_⟩
  · have hd := decode_operands op b1 (word b2 b1)
    generalize opcodeForm op = f at hd ⊢
    cases f with
    | f1 i => exact hd [b1, b2]
    | f2 k => exact hd [b2]
    | f3 k => simpa [Form.operands] using hd []
  · rw [he]
    cases opcodeForm op <;> rfl

/-- Settles O4: the map is a closed table, each count is an evaluation of it. -/
theorem opcodeCountsAgree : Obligations.OpcodeCountsAgree := by
  refine ⟨?_, ?_, ?_, ?_, ?_, ?_, ?_, ?_, ?_, ?_, ?_, ?_, ?_, ?_⟩ <;> decide +kernel

/-- Settles O5: the decoder is evaluated on each word. -/
theorem sampleWordsDecode : Obligations.SampleWordsDecode :=
  ⟨rfl, rfl, rfl, rfl, rfl, rfl, rfl, rfl, rfl, rfl⟩

/-- Settles O6: offset and target both say that the displacement, sign-extended, is the distance from the next
instruction. -/
theorem branchOffsetReachesTarget : Obligations.BranchOffsetReachesTarget := by
  intro addr target
  have h : ∀ r, branchOffset addr target = some r ↔ branchTarget addr r = target := fun r =>
    (branchOffset_eq_some_iff addr target r).trans (branchTarget_eq_iff addr target r).symm
  refine ⟨fun r => (h r).mp, ?_⟩
  rw [Option.isSome_iff_exists]
  exact exists_congr h

end Sys2Proof.Proofs
end

section
/-! The shapes of an instruction: a read of its operand, a store, a read/modify/write, a one-byte instruction, a branch,
or one of the few others. Each shape has one rule, and a table gives what is the mnemonic's own; `exec_runs` is the
inversion that the statements about all instructions are proved from. -/

namespace Sys2Proof.Machine

open Claims

/-! ### The operand read, in the words of the claims -/

theorem ReadOnly.eq_afterRead {s t : State} (h : ReadOnly s t) : t = afterRead s t := h

theorem fetchSource_after (src : Source) (s : State) :
    (fetchSource src s).after = afterRead s (fetchSource src s).after := fetchSource_readOnly src s

/-- Every instruction is a listed form (R15, R76). -/
theorem formWf_instr (i : Instr) : formWf i.mnemonic i.operand = true := by
  cases i <;> rfl

/-- An instruction is as long as its operand's mode says (R70, R76). -/
theorem encode_length (i : Instr) : (encode i).length = operandLength i.operand := by
  have h : ∀ o, (operandBytes o).length + 1 = operandLength o := by
    intro o
    cases o with
    | memory m => cases m <;> rfl
    | _ => rfl
  exact h i.operand

theorem operandLength_source (src : Source) : operandLength src.operand = sourceLength src := by
  cases src <;> rfl

/-! ### Instructions that read their operand -/

/-- What a mnemonic that reads its operand does with the byte. -/
def readAction : Mnemonic → Option (Byte → State → State)
  | .lda => some fun v t => (t.setA v).setNZ v
  | .ldx => some fun v t => (t.setX v).setNZ v
  | .ldy => some fun v t => (t.setY v).setNZ v
  | .lax => some fun v t => ((t.setA v).setX v).setNZ v
  | .las => some fun v t => (((t.setA (v &&& t.sp)).setX (v &&& t.sp)).setSp (v &&& t.sp)).setNZ (v &&& t.sp)
  | .and => some fun v t => (t.setA (t.a &&& v)).setNZ (t.a &&& v)
  | .eor => some fun v t => (t.setA (t.a ^^^ v)).setNZ (t.a ^^^ v)
  | .ora => some fun v t => (t.setA (t.a ||| v)).setNZ (t.a ||| v)
  | .bit => some fun v t => t.setP { t.p with n := v.getLsbD 7, v := v.getLsbD 6, z := (t.a &&& v) == 0x00#8 }
  | .adc => some State.adc
  | .sbc => some State.sbc
  | .cmp => some fun v t => t.compare t.a v
  | .cpx => some fun v t => t.compare t.x v
  | .cpy => some fun v t => t.compare t.y v
  | .anc => some fun v t => ((t.setA (t.a &&& v)).setNZ (t.a &&& v)).setC ((t.a &&& v).getLsbD 7)
  | .arr => some fun v t =>
    let r := arrResult t.p.d (t.a &&& v) t.p.c
    (t.setA r.value).setP { t.p.setNZ r.value with v := r.v, c := r.c }
  | .asr => some fun v t =>
    let r := lsrByte (t.a &&& v) t.p.c
    ((t.setA r.value).setC r.carry).setNZ r.value
  | .sbx => some fun v t => (t.compare (t.a &&& t.x) v).setX ((t.a &&& t.x) - v)
  | .xaa => some fun _ t => (t.drawByte.2.setA t.drawByte.1).setNZ t.drawByte.1
  | .nop => some fun _ t => t
  | _ => none

/-- The operand is fetched, `g` is done with its byte, and the instruction ends (R361, column "read"). -/
def readRule (g : Byte → State → State) (src : Source) (s : State) : State :=
  let f := fetchSource src s
  (g f.value f.after).finish (sourceLength src) (readCycles src f.crossed)

/-- The mnemonics of the table, on an operand they have, are the read rule with their action. -/
theorem meaning_read {m : Mnemonic} {g : Byte → State → State} (hg : readAction m = some g) {src : Source}
    (hw : formWf m src.operand = true) (s : State) : meaning m src.operand s = readRule g src s := by
  cases src with
  | imm d => cases m <;> cases hg <;> rfl
  | mem o =>
    cases m <;> cases hg
    case mem.anc.refl | mem.arr.refl | mem.asr.refl | mem.sbx.refl | mem.xaa.refl => cases o <;> cases hw
    all_goals rfl

/-! ### Stores -/

/-- The byte that a store writes, from the upper byte of the unindexed address plus 1 and the registers. -/
def storeByte : Mnemonic → Option (Byte → State → Byte)
  | .sta => some fun _ s => s.a
  | .stx => some fun _ s => s.x
  | .sty => some fun _ s => s.y
  | .sax => some fun _ s => s.a &&& s.x
  | .sha => some fun h s => s.a &&& s.x &&& h
  | .shx => some fun h s => s.x &&& h
  | .shy => some fun h s => s.y &&& h
  | _ => none

/-- A byte is written at the effective address, and the instruction ends (R361, column "store"). -/
def storeRule (g : Byte → State → Byte) (m : MemOperand) (s : State) : State :=
  (storeTo m (g (upperPlusOne (locate m s)) s) s).finish (memLength m) (storeCycles m)

theorem meaning_store {m : Mnemonic} {g : Byte → State → Byte} (hg : storeByte m = some g) (o : MemOperand)
    (s : State) : meaning m (.memory o) s = storeRule g o s := by
  cases m <;> cases hg <;> rfl

/-- SHS: S takes A AND X, which is stored with the upper byte of the unindexed address plus 1 (R160). -/
theorem shs_aby (w : Word) (s : State) :
    shs (.aby w) s =
      ((s.setSp (s.a &&& s.x)).busWrite (w + zext16 s.y) (s.a &&& s.x &&& (hiByte w + 1))).finish 3 5 := rfl

/-! ### Read/modify/writes -/

/-- What a read/modify/write computes. -/
structure Computed where
  /-- the byte written back -/
  byte : Byte
  /-- A afterwards -/
  a : Byte
  /-- P afterwards -/
  p : Status

/-- A and P as computed. -/
def Computed.into (r : Computed) (s : State) : State := (s.setA r.a).setP r.p

/-- Where A keeps its value, only P is set. -/
theorem Computed.into_of_keep {r : Computed} {s : State} (h : r.a = s.a) : r.into s = s.setP r.p := by
  rw [Computed.into, h]
  rfl

/-- A shift or rotate of a byte, with its flags (R181 to R184). -/
def Computed.ofShift (f : Byte → Bool → ShiftResult) (a : Byte) (p : Status) (b : Byte) : Computed :=
  { byte := (f b p.c).value, a := a, p := { p with c := (f b p.c).carry }.setNZ (f b p.c).value }

/-- A shift or rotate of a byte, and A combined with the result (R225, R228, R229). -/
def Computed.ofShiftThen (f : Byte → Bool → ShiftResult) (g : Byte → Byte → Byte) (a : Byte) (p : Status)
    (b : Byte) : Computed :=
  { byte := (f b p.c).value, a := g a (f b p.c).value,
    p := { p with c := (f b p.c).carry }.setNZ (g a (f b p.c).value) }

/-- An increment or decrement of a byte, with N and Z (R250, R253). -/
def Computed.ofStep (f : Byte → Byte) (a : Byte) (p : Status) (b : Byte) : Computed :=
  { byte := f b, a := a, p := p.setNZ (f b) }

/-- A decrement of a byte, and A compared with it (R223). -/
def Computed.ofDcp (a : Byte) (p : Status) (b : Byte) : Computed :=
  { byte := b - 1, a := a, p := compareFlags p a (b - 1) }

/-- An increment of a byte, and the byte subtracted from A (R224). -/
def Computed.ofIsc (a : Byte) (p : Status) (b : Byte) : Computed :=
  { byte := b + 1, a := (sbcResult p.d a (b + 1) p.c).value, p := arithFlags p (sbcResult p.d a (b + 1) p.c) }

/-- A rotate of a byte, and the byte added to A with the carry just generated (R226). -/
def Computed.ofRra (a : Byte) (p : Status) (b : Byte) : Computed :=
  let r := adcResult p.d a (rorByte b p.c).value (rorByte b p.c).carry
  { byte := (rorByte b p.c).value, a := r.value, p := arithFlags p r }

/-- What a mnemonic that modifies its memory operand computes from A, P and the byte. -/
def modifyAction : Mnemonic → Option (Byte → Status → Byte → Computed)
  | .asl => some (.ofShift aslByte)
  | .lsr => some (.ofShift lsrByte)
  | .rol => some (.ofShift rolByte)
  | .ror => some (.ofShift rorByte)
  | .inc => some (.ofStep (· + 1))
  | .dec => some (.ofStep (· - 1))
  | .dcp => some .ofDcp
  | .isc => some .ofIsc
  | .rra => some .ofRra
  | .rla => some (.ofShiftThen rolByte (· &&& ·))
  | .slo => some (.ofShiftThen aslByte (· ||| ·))
  | .sre => some (.ofShiftThen lsrByte (· ^^^ ·))
  | _ => none

/-- The byte at the effective address is read, what `g` computes from it is written back and goes to A and P, and the
instruction ends (R361, column "read/modify/write"). -/
def modifyRule (g : Byte → Status → Byte → Computed) (m : MemOperand) (s : State) : State :=
  let l := locate m s
  let o := l.after.busRead l.ea
  let r := g s.a s.p o.1
  (r.into (o.2.busWrite l.ea r.byte)).finish (memLength m) (modifyCycles m)

theorem modifyRule_eq_modify (g : Byte → Status → Byte → Computed) (m : MemOperand) (s : State) :
    modifyRule g m s =
      let w := modify m (fun b => (g s.a s.p b).byte) s
      ((g s.a s.p w.old).into w.after).finish (memLength m) (modifyCycles m) := rfl

theorem shift_mem (f : Byte → Bool → ShiftResult) (m : MemOperand) (s : State) :
    shift f (.mem m) s = modifyRule (.ofShift f) m s := by
  simp [modifyRule_eq_modify, Computed.into, State.setA, shift, setShiftFlags, State.setC, State.setNZ,
    State.setP, Computed.ofShift, targetLength, shiftCycles]

theorem shiftThen_eq (f : Byte → Bool → ShiftResult) (g : Byte → Byte → Byte) (m : MemOperand) (s : State) :
    shiftThen f g m s = modifyRule (.ofShiftThen f g) m s := by
  simp [modifyRule_eq_modify, Computed.into, State.setA, shiftThen, modify_new, State.setC, State.setNZ, State.setP,
    Computed.ofShiftThen]

theorem stepMemory_eq (f : Byte → Byte) (m : MemOperand) (s : State) :
    stepMemory f m s = modifyRule (.ofStep f) m s := by
  simp [modifyRule_eq_modify, Computed.into, State.setA, stepMemory, modify_new, State.setNZ,
    State.setP, Computed.ofStep]

theorem dcp_eq (m : MemOperand) (s : State) : dcp m s = modifyRule .ofDcp m s := by
  simp [modifyRule_eq_modify, Computed.into, State.setA, dcp, modify_new, State.compare, State.setP, Computed.ofDcp]

theorem isc_eq (m : MemOperand) (s : State) : isc m s = modifyRule .ofIsc m s := by
  simp [modifyRule_eq_modify, Computed.into, State.setA, isc, modify_new, State.sbc, State.setArith, State.setP,
    Computed.ofIsc, arithFlags]

theorem rra_eq (m : MemOperand) (s : State) : rra m s = modifyRule .ofRra m s := by
  simp [modifyRule_eq_modify, Computed.into, State.setA, rra, modify_new, State.adc, State.setArith, State.setC,
    State.setP, Computed.ofRra, arithFlags]

theorem meaning_modify {m : Mnemonic} {g : Byte → Status → Byte → Computed} (hg : modifyAction m = some g)
    (o : MemOperand) (s : State) : meaning m (.memory o) s = modifyRule g o s := by
  cases m <;> cases hg
  case asl | lsr | rol | ror => exact shift_mem _ o s
  case rla | slo | sre => exact shiftThen_eq _ _ o s
  case inc | dec => exact stepMemory_eq _ o s
  case dcp => exact dcp_eq o s
  case isc => exact isc_eq o s
  case rra => exact rra_eq o s

/-! ### One-byte instructions -/

/-- A shift or rotate of A, with its flags (R181 to R184). -/
def shiftA (f : Byte → Bool → ShiftResult) (s : State) : State :=
  ((s.setA (f s.a s.p.c).value).setC (f s.a s.p.c).carry).setNZ (f s.a s.p.c).value

/-- What a mnemonic does in its form of one byte that only moves PC on: the shifts on A, the others without operand. -/
def shortAction : Mnemonic → Option (State → State)
  | .tax => some fun s => (s.setX s.a).setNZ s.a
  | .tay => some fun s => (s.setY s.a).setNZ s.a
  | .tsx => some fun s => (s.setX s.sp).setNZ s.sp
  | .txa => some fun s => (s.setA s.x).setNZ s.x
  | .txs => some fun s => s.setSp s.x
  | .tya => some fun s => (s.setA s.y).setNZ s.y
  | .pha => some fun s => s.push s.a
  | .php => some fun s => s.push (s.p.toByte true)
  | .pla => some fun s => (s.pull.2.setA s.pull.1).setNZ s.pull.1
  | .plp => some fun s => s.pull.2.setP (Status.ofByte s.pull.1)
  | .dex => some fun s => (s.setX (s.x - 1)).setNZ (s.x - 1)
  | .dey => some fun s => (s.setY (s.y - 1)).setNZ (s.y - 1)
  | .inx => some fun s => (s.setX (s.x + 1)).setNZ (s.x + 1)
  | .iny => some fun s => (s.setY (s.y + 1)).setNZ (s.y + 1)
  | .clc => some fun s => s.setP { s.p with c := false }
  | .cld => some fun s => s.setP { s.p with d := false }
  | .cli => some fun s => s.setP { s.p with i := false }
  | .clv => some fun s => s.setP { s.p with v := false }
  | .sec => some fun s => s.setP { s.p with c := true }
  | .sed => some fun s => s.setP { s.p with d := true }
  | .sei => some fun s => s.setP { s.p with i := true }
  | .nop => some fun s => s
  | .asl => some (shiftA aslByte)
  | .lsr => some (shiftA lsrByte)
  | .rol => some (shiftA rolByte)
  | .ror => some (shiftA rorByte)
  | _ => none

/-- The cycles of the one-byte instructions: 3 for a push, 4 for a pull, 2 for the others (R361). -/
def shortCycles : Mnemonic → Nat
  | .pha | .php => 3
  | .pla | .plp => 4
  | _ => 2

/-- The mnemonics of the table, in their one-byte form, do their action and end. -/
theorem meaning_short {m : Mnemonic} {g : State → State} (hg : shortAction m = some g) {o : Operand}
    (ho : o = .implied ∨ o = .accumulator) (hw : formWf m o = true) (s : State) :
    meaning m o s = (g s).finish 1 (shortCycles m) := by
  rcases ho with rfl | rfl <;> cases m <;> cases hg
  case inl.asl.refl | inl.lsr.refl | inl.rol.refl | inl.ror.refl => cases hw
  all_goals rfl

/-! ### Branches -/

/-- The test of a branch (R281 to R288). -/
def branchTest : Mnemonic → Option (Status → Bool)
  | .bcc => some fun p => !p.c
  | .bcs => some fun p => p.c
  | .beq => some fun p => p.z
  | .bne => some fun p => !p.z
  | .bmi => some fun p => p.n
  | .bpl => some fun p => !p.n
  | .bvc => some fun p => !p.v
  | .bvs => some fun p => p.v
  | _ => none

theorem meaning_branch {m : Mnemonic} {g : Status → Bool} (hg : branchTest m = some g) (r : Byte) (s : State) :
    meaning m (.relative r) s = branch (g s.p) r s := by
  cases m <;> cases hg <;> rfl

/-! ### The inversion -/

/-- What running a mnemonic on an operand from `s` can be, by its shape. -/
inductive Runs (m : Mnemonic) (s : State) : Operand → State → Prop where
  | read {g : Byte → State → State} (hg : readAction m = some g) (src : Source) : Runs m s src.operand (readRule g src s)
  | store {g : Byte → State → Byte} (hg : storeByte m = some g) (o : MemOperand) : Runs m s (.memory o) (storeRule g o s)
  | modify {g : Byte → Status → Byte → Computed} (hg : modifyAction m = some g) (o : MemOperand) :
    Runs m s (.memory o) (modifyRule g o s)
  | short {g : State → State} {o : Operand} (hg : shortAction m = some g) (ho : o = .implied ∨ o = .accumulator)
    (hw : formWf m o = true) : Runs m s o ((g s).finish 1 (shortCycles m))
  | branch {g : Status → Bool} (hg : branchTest m = some g) (r : Byte) : Runs m s (.relative r) (branch (g s.p) r s)
  | shs (hm : m = .shs) (w : Word) : Runs m s (.memory (.aby w)) (Machine.shs (.aby w) s)
  | jmp (hm : m = .jmp) (w : Word) : Runs m s (.memory (.abs w)) (Machine.jmp w s)
  | jmpIndirect (hm : m = .jmp) (w : Word) : Runs m s (.indirect w) (Machine.jmpIndirect w s)
  | jsr (hm : m = .jsr) (w : Word) : Runs m s (.memory (.abs w)) (Machine.jsr w s)
  | rts (hm : m = .rts) : Runs m s .implied (Machine.rts s)
  | brk (hm : m = .brk) : Runs m s .implied (Machine.brk s)
  | rti (hm : m = .rti) : Runs m s .implied (Machine.rti s)
  | jam (hm : m = .jam) : Runs m s .implied (Machine.jam s)

theorem formWf_iff (m : Mnemonic) (o : Operand) : formWf m o = true ↔ o.mode ∈ m.modes :=
  List.contains_iff_mem

/-! Which table a mnemonic stands in, by a mode it has. -/

theorem readAction_of_imm {m : Mnemonic} : Mode.imm ∈ m.modes → (readAction m).isSome = true := by
  cases m <;> decide

theorem shortAction_of_acc {m : Mnemonic} : Mode.acc ∈ m.modes → (shortAction m).isSome = true := by
  cases m <;> decide

theorem branchTest_of_rel {m : Mnemonic} : Mode.rel ∈ m.modes → (branchTest m).isSome = true := by
  cases m <;> decide

theorem jmp_of_ind {m : Mnemonic} : Mode.ind ∈ m.modes → m = .jmp := by
  cases m <;> decide

theorem table_of_imp {m : Mnemonic} :
    Mode.imp ∈ m.modes → (shortAction m).isSome = true ∨ m = .rts ∨ m = .brk ∨ m = .rti ∨ m = .jam := by
  cases m <;> decide

/-- A mnemonic with a mode of memory operands is in a table, or it is SHS, JMP or JSR. -/
theorem table_of_memory_mode (m : Mnemonic) :
    ∀ k ∈ [Mode.zp, .zpx, .zpy, .abs, .abx, .aby, .izx, .izy], k ∈ m.modes →
      (readAction m).isSome = true ∨ (storeByte m).isSome = true ∨ (modifyAction m).isSome = true ∨
        (m = .shs ∧ k = .aby) ∨ ((m = .jmp ∨ m = .jsr) ∧ k = .abs) := by
  cases m <;> decide

theorem memory_mode_mem (o : MemOperand) :
    (Operand.memory o).mode ∈ [Mode.zp, .zpx, .zpy, .abs, .abx, .aby, .izx, .izy] := by
  cases o <;> simp [Operand.mode]

theorem exists_abs_of_mode {o : MemOperand} (h : (Operand.memory o).mode = .abs) : ∃ w, o = .abs w := by
  cases o <;> cases h
  exact ⟨_, rfl⟩

theorem exists_aby_of_mode {o : MemOperand} (h : (Operand.memory o).mode = .aby) : ∃ w, o = .aby w := by
  cases o <;> cases h
  exact ⟨_, rfl⟩

/-- Every listed form runs as its shape says. -/
theorem meaning_runs {m : Mnemonic} {o : Operand} (hw : formWf m o = true) (s : State) :
    Runs m s o (meaning m o s) := by
  have hmode := (formWf_iff m o).mp hw
  cases o with
  | implied =>
    rcases table_of_imp hmode with h | rfl | rfl | rfl | rfl
    · obtain ⟨g, hg⟩ := Option.isSome_iff_exists.mp h
      rw [meaning_short hg (.inl rfl) hw]
      exact .short hg (.inl rfl) hw
    · exact .rts rfl
    · exact .brk rfl
    · exact .rti rfl
    · exact .jam rfl
  | accumulator =>
    obtain ⟨g, hg⟩ := Option.isSome_iff_exists.mp (shortAction_of_acc hmode)
    rw [meaning_short hg (.inr rfl) hw]
    exact .short hg (.inr rfl) hw
  | immediate d =>
    obtain ⟨g, hg⟩ := Option.isSome_iff_exists.mp (readAction_of_imm hmode)
    rw [show Operand.immediate d = (Source.imm d).operand from rfl] at hw ⊢
    rw [meaning_read hg hw]
    exact .read hg (.imm d)
  | memory o =>
    rcases table_of_memory_mode m _ (memory_mode_mem o) hmode with h | h | h | ⟨rfl, h⟩ | ⟨hm, h⟩
    · obtain ⟨g, hg⟩ := Option.isSome_iff_exists.mp h
      rw [show Operand.memory o = (Source.mem o).operand from rfl] at hw ⊢
      rw [meaning_read hg hw]
      exact .read hg (.mem o)
    · obtain ⟨g, hg⟩ := Option.isSome_iff_exists.mp h
      rw [meaning_store hg]
      exact .store hg o
    · obtain ⟨g, hg⟩ := Option.isSome_iff_exists.mp h
      rw [meaning_modify hg]
      exact .modify hg o
    · obtain ⟨w, rfl⟩ := exists_aby_of_mode h
      exact .shs rfl w
    · obtain ⟨w, rfl⟩ := exists_abs_of_mode h
      rcases hm with rfl | rfl
      · exact .jmp rfl w
      · exact .jsr rfl w
  | indirect w =>
    obtain rfl := jmp_of_ind hmode
    exact .jmpIndirect rfl w
  | relative r =>
    obtain ⟨g, hg⟩ := Option.isSome_iff_exists.mp (branchTest_of_rel hmode)
    rw [meaning_branch hg]
    exact .branch hg r

/-- Every instruction that exec runs, runs as its shape says. -/
theorem exec_runs {i : Instr} {s t : State} (h : exec i s = .next t) : Runs i.mnemonic s i.operand t :=
  exec_next h ▸ meaning_runs (formWf_instr i) s

/-! ### What exec answers, by shape -/

/-- An instruction that reads its operand does its action with the byte read, and ends. -/
theorem exec_read {i : Instr} {src : Source} {g : Byte → State → State} (hg : readAction i.mnemonic = some g)
    (ho : i.operand = src.operand) (s : State) :
    exec i s = .next (ends i (readCycles src (fetchSource src s).crossed)
      (g (fetchSource src s).value (afterRead s (fetchSource src s).after))) := by
  rw [exec_eq_meaning, ho, meaning_read hg (ho ▸ formWf_instr i), readRule, ends_eq_finish, encode_length, ho,
    operandLength_source, ← fetchSource_after]

/-- A store writes its byte at the effective address, and ends. -/
theorem exec_store {i : Instr} {m : MemOperand} {g : Byte → State → Byte} (hg : storeByte i.mnemonic = some g)
    (ho : i.operand = .memory m) (s : State) :
    exec i s = .next (ends i (storeCycles m)
      ((afterRead s (locate m s).after).busWrite (locate m s).ea (g (upperPlusOne (locate m s)) s))) := by
  rw [exec_eq_meaning, ho, meaning_store hg, storeRule, ends_eq_finish, encode_length, ho, storeTo_eq,
    ← (locate_readOnly m s).eq_afterRead]
  rfl

/-- The state after the one read of a memory operand. -/
theorem located_read_readOnly (m : MemOperand) (s : State) :
    ReadOnly s ((locate m s).after.busRead (locate m s).ea).2 :=
  (locate_readOnly m s).trans (busRead_readOnly _ _)

/-- A read/modify/write writes back what it computes from the byte read, and ends. -/
theorem exec_modify {i : Instr} {m : MemOperand} {g : Byte → Status → Byte → Computed}
    (hg : modifyAction i.mnemonic = some g) (ho : i.operand = .memory m) (s : State) :
    let o := (locate m s).after.busRead (locate m s).ea
    let r := g s.a s.p o.1
    exec i s = .next (ends i (modifyCycles m) (r.into ((afterRead s o.2).busWrite (locate m s).ea r.byte))) := by
  intro o r
  rw [exec_eq_meaning, ho, meaning_modify hg, modifyRule, ends_eq_finish, encode_length, ho,
    ← (located_read_readOnly m s).eq_afterRead]
  rfl

/-- The same where A keeps its value. -/
theorem exec_modify_keep {i : Instr} {m : MemOperand} {g : Byte → Status → Byte → Computed}
    (hg : modifyAction i.mnemonic = some g) (ho : i.operand = .memory m) (s : State)
    (hkeep : ∀ a p b, (g a p b).a = a) :
    let o := (locate m s).after.busRead (locate m s).ea
    let r := g s.a s.p o.1
    exec i s = .next (ends i (modifyCycles m) (((afterRead s o.2).busWrite (locate m s).ea r.byte).setP r.p)) := by
  intro o r
  have ha : r.a = ((afterRead s o.2).busWrite (locate m s).ea r.byte).a := by
    rw [busWrite_a]
    exact hkeep _ _ _
  rw [← Computed.into_of_keep ha]
  exact exec_modify hg ho s

/-- A one-byte instruction does its action, and ends. -/
theorem exec_short {i : Instr} {g : State → State} (hg : shortAction i.mnemonic = some g)
    (ho : i.operand = .implied ∨ i.operand = .accumulator) (s : State) :
    exec i s = .next (ends i (shortCycles i.mnemonic) (g s)) := by
  have hl : (encode i).length = 1 := by
    rw [encode_length]
    rcases ho with h | h <;> rw [h] <;> rfl
  rw [exec_eq_meaning, meaning_short hg ho (formWf_instr i), ends_eq_finish, hl]

end Sys2Proof.Machine
end

section
/-! What every instruction leaves alone: registers and configuration (R11 to R14), flags (`95_test_vectors.md` 1.2), PC
(R17). One lemma per table of the shapes, put together along `exec_runs`. -/

namespace Sys2Proof.Claims

open Machine

/-- What a row of the flags tables says of P before and after. -/
def FlagRow.Holds (r : FlagRow) (p q : Status) : Prop :=
  r.n.holds p.n q.n ∧ r.v.holds p.v q.v ∧ r.d.holds p.d q.d ∧ r.i.holds p.i q.i ∧ r.z.holds p.z q.z ∧ r.c.holds p.c q.c

@[simp] theorem FlagEntry.holds_keeps (p q : Bool) : FlagEntry.keeps.holds p q ↔ q = p := Iff.rfl
@[simp] theorem FlagEntry.holds_zero (p q : Bool) : FlagEntry.zero.holds p q ↔ q = false := Iff.rfl
@[simp] theorem FlagEntry.holds_one (p q : Bool) : FlagEntry.one.holds p q ↔ q = true := Iff.rfl
@[simp] theorem FlagEntry.holds_result (p q : Bool) : FlagEntry.result.holds p q ↔ True := Iff.rfl

/-- A row that only keeps says that P is unchanged. -/
theorem FlagRow.holds_refl {r : FlagRow} (hr : r = ⟨.keeps, .keeps, .keeps, .keeps, .keeps, .keeps⟩) (p : Status) :
    r.Holds p p := by
  subst hr
  exact ⟨rfl, rfl, rfl, rfl, rfl, rfl⟩

end Sys2Proof.Claims

namespace Sys2Proof.Machine

open Claims

/-- What an instruction of this mnemonic and operand keeps of the registers, of the configuration and of the halted
state (R11 to R14). -/
structure KeepsRegisters (i : Instr) (s t : State) : Prop where
  a : writesA i = false → t.a = s.a
  x : writesX i = false → t.x = s.x
  y : writesY i = false → t.y = s.y
  sp : writesS i = false → t.sp = s.sp
  map : t.map = s.map
  inputs : t.inputs = s.inputs
  nmiPending : t.nmiPending = s.nmiPending
  halted : i.mnemonic ≠ .jam → t.halted = s.halted

theorem KeepsRegisters.of_readOnly {i : Instr} {s t u : State} (h : ReadOnly s t) (hk : KeepsRegisters i t u) :
    KeepsRegisters i s u where
  a hw := (hk.a hw).trans h.a
  x hw := (hk.x hw).trans h.x
  y hw := (hk.y hw).trans h.y
  sp hw := (hk.sp hw).trans h.sp
  map := hk.map.trans h.map
  inputs := hk.inputs.trans h.inputs
  nmiPending := hk.nmiPending.trans h.nmiPending
  halted hm := (hk.halted hm).trans h.halted

/-! ### The tables -/

theorem readAction_keepsRegisters {i : Instr} {g : Byte → State → State} (hg : readAction i.mnemonic = some g)
    (v : Byte) (s : State) : KeepsRegisters i s (g v s) := by
  cases hm : i.mnemonic <;> rw [hm] at hg <;> cases hg <;> constructor <;>
    simp [writesA, writesX, writesY, writesS, hm, State.adc, State.sbc, State.setArith, State.compare, State.drawByte]

theorem readAction_flags {m : Mnemonic} {g : Byte → State → State} (hg : readAction m = some g) (v : Byte)
    (s : State) : (flagRow m).Holds s.p (g v s).p := by
  cases m <;> cases hg <;>
    simp [FlagRow.Holds, flagRow, State.adc, State.sbc, State.setArith, State.compare, State.drawByte, compareFlags,
      lsrByte]

theorem readAction_pc {m : Mnemonic} {g : Byte → State → State} (hg : readAction m = some g) (v : Byte) (s : State) :
    (g v s).pc = s.pc := by
  cases m <;> cases hg <;> rfl

theorem readAction_mem {m : Mnemonic} {g : Byte → State → State} (hg : readAction m = some g) (v : Byte) (s : State) :
    (g v s).mem = s.mem := by
  cases m <;> cases hg <;> rfl

theorem modifyAction_flags {m : Mnemonic} {g : Byte → Status → Byte → Computed} (hg : modifyAction m = some g)
    (a : Byte) (p : Status) (b : Byte) : (flagRow m).Holds p (g a p b).p := by
  cases m <;> cases hg <;>
    simp [FlagRow.Holds, flagRow, Computed.ofShift, Computed.ofShiftThen, Computed.ofStep, Computed.ofDcp,
      Computed.ofIsc, Computed.ofRra, arithFlags, compareFlags, lsrByte]

/-- A read/modify/write that is not listed as writing A keeps it. -/
theorem modifyAction_a {i : Instr} {g : Byte → Status → Byte → Computed} (hg : modifyAction i.mnemonic = some g)
    (hw : writesA i = false) (a : Byte) (p : Status) (b : Byte) : (g a p b).a = a := by
  cases hm : i.mnemonic <;> rw [hm] at hg <;> cases hg <;> simp [writesA, hm] at hw <;> rfl

theorem pull_a (s : State) : s.pull.2.a = s.a := (pull_readOnly s).a
theorem pull_x (s : State) : s.pull.2.x = s.x := (pull_readOnly s).x
theorem pull_y (s : State) : s.pull.2.y = s.y := (pull_readOnly s).y
theorem pull_pc (s : State) : s.pull.2.pc = s.pc := (pull_readOnly s).pc
theorem pull_p (s : State) : s.pull.2.p = s.p := (pull_readOnly s).p
theorem pull_halted (s : State) : s.pull.2.halted = s.halted := (pull_readOnly s).halted
theorem pull_nmiPending (s : State) : s.pull.2.nmiPending = s.nmiPending := (pull_readOnly s).nmiPending
theorem pull_mem (s : State) : s.pull.2.mem = s.mem := (pull_readOnly s).mem
theorem pull_map (s : State) : s.pull.2.map = s.map := (pull_readOnly s).map
theorem pull_inputs (s : State) : s.pull.2.inputs = s.inputs := (pull_readOnly s).inputs

/-- The one-byte form of a shift or rotate is the one on A. -/
theorem operand_of_short_shift {i : Instr} (ho : i.operand = .implied ∨ i.operand = .accumulator)
    (hm : i.mnemonic ∈ [Mnemonic.asl, .lsr, .rol, .ror]) : i.operand = .accumulator := by
  refine ho.resolve_left fun himp => ?_
  have hw := formWf_instr i
  rw [himp] at hw
  generalize i.mnemonic = m at hm hw
  fin_cases hm <;> cases hw

theorem shortAction_keepsRegisters {i : Instr} {g : State → State} (hg : shortAction i.mnemonic = some g)
    (ho : i.operand = .implied ∨ i.operand = .accumulator) (s : State) : KeepsRegisters i s (g s) := by
  have hacc := operand_of_short_shift ho
  cases hm : i.mnemonic <;> rw [hm] at hg hacc <;> cases hg <;> constructor <;>
    simp [writesA, writesX, writesY, writesS, hm, hacc, shiftA, pull_a, pull_x, pull_y, pull_map, pull_inputs,
      pull_nmiPending, pull_halted]

theorem shortAction_flags {m : Mnemonic} {g : State → State} (hg : shortAction m = some g) (s : State) :
    (flagRow m).Holds s.p (g s).p := by
  cases m <;> cases hg <;> simp [FlagRow.Holds, flagRow, shiftA, lsrByte, pull_p]

theorem shortAction_pc {m : Mnemonic} {g : State → State} (hg : shortAction m = some g) (s : State) :
    (g s).pc = s.pc := by
  cases m <;> cases hg <;> simp [shiftA, pull_pc]

/-- No one-byte instruction but PHA and PHP stores. -/
theorem shortAction_mem {m : Mnemonic} {g : State → State} (hg : shortAction m = some g) (ha : m ≠ .pha)
    (hp : m ≠ .php) (s : State) : (g s).mem = s.mem := by
  cases m <;> cases hg <;> simp_all [shiftA, pull_mem]

/-! ### The shapes -/

theorem storeTo_keepsRegisters (i : Instr) (m : MemOperand) (v : Byte) (s : State) :
    KeepsRegisters i s (storeTo m v s) := by
  constructor <;> simp

/-- What a finished instruction keeps is what it kept before its end. -/
theorem KeepsRegisters.finish {i : Instr} {s t : State} (h : KeepsRegisters i s t) (l c : Nat) :
    KeepsRegisters i s (t.finish l c) where
  a := h.a
  x := h.x
  y := h.y
  sp := h.sp
  map := h.map
  inputs := h.inputs
  nmiPending := h.nmiPending
  halted := h.halted

theorem modifyRule_keepsRegisters {i : Instr} {g : Byte → Status → Byte → Computed}
    (hg : modifyAction i.mnemonic = some g) (m : MemOperand) (s : State) : KeepsRegisters i s (modifyRule g m s) := by
  refine KeepsRegisters.of_readOnly (located_read_readOnly m s) (KeepsRegisters.finish ?_ _ _)
  constructor
  case a =>
    intro hw
    exact (modifyAction_a hg hw _ _ _).trans (located_read_readOnly m s).a.symm
  all_goals simp [Computed.into]

/-- Every instruction keeps the registers that R11 to R14 do not list it for, and the configuration. -/
theorem exec_keepsRegisters {i : Instr} {s t : State} (h : exec i s = .next t) : KeepsRegisters i s t := by
  have hr := exec_runs h
  generalize hm : i.mnemonic = m at hr
  generalize ho : i.operand = o at hr
  cases hr
  case read g hg src =>
    exact .of_readOnly (fetchSource_readOnly src s) ((readAction_keepsRegisters (hm ▸ hg) _ _).finish _ _)
  case store g hg n => exact (storeTo_keepsRegisters i n _ s).finish _ _
  case modify g hg n => exact modifyRule_keepsRegisters (hm ▸ hg) n s
  case short g hg hs hw => exact (shortAction_keepsRegisters (hm ▸ hg) (ho ▸ hs) s).finish _ _
  case branch g hg r => constructor <;> intros <;> rfl
  case shs hs w =>
    subst hs
    constructor <;> simp [writesS, hm, shs, storeHigh, storeValue]
  case jmp hs w => constructor <;> intros <;> rfl
  case jmpIndirect hs w => exact .of_readOnly (readIndirect_readOnly w s) (by constructor <;> intros <;> rfl)
  case jsr hs w =>
    subst hs
    constructor <;> simp [writesS, hm, jsr]
  case rts hs =>
    subst hs
    have hp := pullWord_readOnly s
    constructor <;> simp [writesS, hm, rts, hp.a, hp.x, hp.y, hp.map, hp.inputs, hp.nmiPending, hp.halted]
  case brk hs =>
    subst hs
    constructor <;> simp [writesS, hm, brk]
  case rti hs =>
    subst hs
    have hp := returnFromInterrupt_readOnly s
    constructor <;> simp [writesS, hm, rti, hp.a, hp.x, hp.y, hp.map, hp.inputs, hp.nmiPending, hp.halted]
  case jam hs =>
    subst hs
    constructor <;> simp [jam, hm]

/-- Every instruction does with each flag what its flags table says. -/
theorem exec_flags {i : Instr} {s t : State} (h : exec i s = .next t) : (flagRow i.mnemonic).Holds s.p t.p := by
  have hr := exec_runs h
  generalize i.mnemonic = m at hr
  generalize i.operand = o at hr
  cases hr
  case read g hg src =>
    have hf := readAction_flags hg (fetchSource src s).value (fetchSource src s).after
    rwa [(fetchSource_readOnly src s).p] at hf
  case store g hg n =>
    have hrow : flagRow m = ⟨.keeps, .keeps, .keeps, .keeps, .keeps, .keeps⟩ := by
      cases m <;> cases hg <;> rfl
    simp [hrow, FlagRow.Holds, storeRule]
  case modify g hg n => exact modifyAction_flags hg _ _ _
  case short g hg hs hw => exact shortAction_flags hg s
  case branch g hg r =>
    have hrow : flagRow m = ⟨.keeps, .keeps, .keeps, .keeps, .keeps, .keeps⟩ := by
      cases m <;> cases hg <;> rfl
    exact FlagRow.holds_refl hrow s.p
  case shs hs w =>
    subst hs
    simp [FlagRow.Holds, flagRow, shs, storeHigh, storeValue]
  case jmp hs w => exact FlagRow.holds_refl (by rw [hs]; rfl) s.p
  case jmpIndirect hs w =>
    subst hs
    simp [FlagRow.Holds, flagRow, jmpIndirect, (readIndirect_readOnly w s).p]
  case jsr hs w =>
    subst hs
    simp [FlagRow.Holds, flagRow, jsr]
  case rts hs =>
    subst hs
    simp [FlagRow.Holds, flagRow, rts, (pullWord_readOnly s).p]
  case brk hs =>
    subst hs
    simp [FlagRow.Holds, flagRow, brk]
  case rti hs =>
    subst hs
    simp [FlagRow.Holds, flagRow]
  case jam hs => exact FlagRow.holds_refl (by rw [hs]; rfl) s.p

/-- An instruction that is no control transfer ends past its own bytes. -/
theorem exec_pc {i : Instr} {s t : State} (hm : i.mnemonic ∉ transfers) (h : exec i s = .next t) :
    t.pc = s.pc + BitVec.ofNat 16 (encode i).length := by
  have hr := exec_runs h
  rw [encode_length]
  generalize i.mnemonic = m at hr hm
  generalize i.operand = o at hr
  cases hr
  case read g hg src =>
    simp [readRule, readAction_pc hg, (fetchSource_readOnly src s).pc, operandLength_source]
  case store g hg n => simp [storeRule, operandLength]
  case modify g hg n =>
    simp [modifyRule, Computed.into, (located_read_readOnly n s).pc, operandLength]
  case short g hg hs hw =>
    rcases hs with rfl | rfl <;> simp [shortAction_pc hg, operandLength]
  case branch g hg r =>
    cases m <;> cases hg <;> exact absurd (by decide) hm
  case shs hs w => simp [shs, storeHigh, storeValue, operandLength]
  case jmp hs _ | jmpIndirect hs _ | jsr hs _ | rts hs | brk hs | rti hs | jam hs =>
    subst hs
    exact absurd (by decide) hm

end Sys2Proof.Machine

namespace Sys2Proof.Proofs

open Sys2Proof.Machine Sys2Proof.Claims

/-- Settles O17: `exec_keepsRegisters`, field by field. -/
theorem registersWrittenOnlyAsListed : Obligations.RegistersWrittenOnlyAsListed := by
  intro i s t h
  have hk := exec_keepsRegisters h
  exact ⟨hk.a, hk.x, hk.y, hk.sp, hk.map, hk.inputs, hk.nmiPending, hk.halted⟩

/-- Settles O18: `exec_flags`. -/
theorem flagsWrittenOnlyAsTabled : Obligations.FlagsWrittenOnlyAsTabled := fun _ _ _ h => exec_flags h

/-- Settles O20: `exec_pc`, as numbers. -/
theorem pcMovesPastTheInstruction : Obligations.PcMovesPastTheInstruction := by
  intro i s t hm h
  rw [exec_pc hm h]
  simp [BitVec.toNat_add]

end Sys2Proof.Proofs
end

section
/-! What is stored, and where: memory after an instruction, an interrupt entry and a step is memory before it with bytes
stored at RAM addresses (R41, R116), so that every step keeps the canonical form, ROM and unmapped space. -/

namespace Sys2Proof.Machine

open Claims

/-! ### The stack slots -/

theorem stackAddress_eq_slot (s : State) : stackAddress s.sp = stackSlot s 0 := by
  simp [stackAddress, stackSlot, zext16]

/-- A write does not look at S. -/
theorem busWrite_setSp (addr : Word) (v sp : Byte) (s : State) :
    (s.setSp sp).busWrite addr v = (s.busWrite addr v).setSp sp := by
  unfold State.busWrite
  rw [State.setSp_map]
  cases kindAt s.map addr <;> rfl

theorem push_eq_slot (v : Byte) (s : State) : s.push v = (s.busWrite (stackSlot s 0) v).setSp (s.sp - 1) := by
  rw [push_eq, stackAddress_eq_slot]

/-- Two pushes are two writes, each to its own slot. -/
theorem pushWord_eq_slots (w : Word) (s : State) :
    s.pushWord w =
      ((s.busWrite (stackSlot s 0) (hiByte w)).busWrite (stackSlot s 1) (loByte w)).setSp (s.sp - 2) := by
  rw [State.pushWord, push_eq, push_sp, push_eq_slot, busWrite_setSp]
  simp only [State.setSp, BitVec.sub_sub]
  rfl

/-- The three pushes of an interrupt sequence are three writes, each to its own slot. -/
theorem pushWord_push_eq_slots (w : Word) (b : Byte) (s : State) :
    (s.pushWord w).push b =
      (((s.busWrite (stackSlot s 0) (hiByte w)).busWrite (stackSlot s 1) (loByte w)).busWrite (stackSlot s 2) b).setSp
        (s.sp - 3) := by
  rw [push_eq, pushWord_sp, pushWord_eq_slots, busWrite_setSp]
  simp only [State.setSp, BitVec.sub_sub]
  rfl

/-! ### Bytes stored at listed RAM addresses -/

/-- `m'` is `m` after bytes are stored at addresses of `l` that the map says are RAM. -/
inductive Stored (map : List Region) (l : List Word) (m : Memory) : Memory → Prop where
  | refl : Stored map l m m
  | write {m' : Memory} {addr : Word} (h : Stored map l m m') (hl : addr ∈ l) (hk : kindAt map addr = .ram) (v : Byte) :
    Stored map l m (m'.write addr.toNat v)

theorem Stored.wf {map : List Region} {l : List Word} {m m' : Memory} (h : Stored map l m m') (hm : m.wf) : m'.wf := by
  induction h with
  | refl => exact hm
  | @write _ addr _ _ _ v ih => exact Memory.write_wf ih addr.isLt v

/-- An address that is not listed, or not RAM, reads as before. -/
theorem Stored.read_other {map : List Region} {l : List Word} {m m' : Memory} (h : Stored map l m m') {a : Word}
    (ha : a ∉ l ∨ kindAt map a ≠ .ram) : m'.read a.toNat = m.read a.toNat := by
  induction h with
  | refl => rfl
  | @write _ addr _ hl hk v ih =>
    have hne : a ≠ addr := by
      rintro rfl
      exact ha.elim (· hl) (· hk)
    rw [Memory.read_write_other _ v fun h => hne (BitVec.eq_of_toNat_eq h), ih]

/-- `t` has the memory map of `s`, and its memory after bytes are stored at RAM addresses of `l`. -/
def StoresOnly (l : List Word) (s t : State) : Prop := t.map = s.map ∧ Stored s.map l s.mem t.mem

theorem StoresOnly.of_mem {l : List Word} {s t : State} (hmap : t.map = s.map) (hmem : t.mem = s.mem) :
    StoresOnly l s t := ⟨hmap, hmem ▸ .refl⟩

theorem ReadOnly.storesOnly {s t : State} (h : ReadOnly s t) (l : List Word) : StoresOnly l s t := .of_mem h.map h.mem

theorem StoresOnly.busWrite {l : List Word} {s t : State} (h : StoresOnly l s t) {addr : Word} (hl : addr ∈ l)
    (v : Byte) : StoresOnly l s (t.busWrite addr v) := by
  obtain ⟨hmap, hmem⟩ := h
  refine ⟨(busWrite_map addr v t).trans hmap, ?_⟩
  by_cases hk : kindAt t.map addr = .ram
  · rw [busWrite_ram hk]
    exact hmem.write hl (hmap ▸ hk) v
  · rw [busWrite_mem_of_not_ram hk]
    exact hmem

/-- Setting registers, flags, PC, the cycles or the halted state stores nothing. -/
theorem StoresOnly.congr {l : List Word} {s t u : State} (h : StoresOnly l s t) (hmap : u.map = t.map)
    (hmem : u.mem = t.mem) : StoresOnly l s u := by
  unfold StoresOnly
  rwa [hmap, hmem]

/-- The same from another state with the same map and memory. -/
theorem StoresOnly.of_base {l : List Word} {r s t : State} (h : StoresOnly l s t) (hmap : s.map = r.map)
    (hmem : s.mem = r.mem) : StoresOnly l r t := by
  unfold StoresOnly
  rwa [← hmap, ← hmem]

theorem pushWord_storesOnly (w : Word) (s : State) :
    StoresOnly [stackSlot s 0, stackSlot s 1] s (s.pushWord w) := by
  rw [pushWord_eq_slots]
  have h : StoresOnly [stackSlot s 0, stackSlot s 1] s s := .of_mem rfl rfl
  exact ((h.busWrite (by simp) _).busWrite (by simp) _).congr rfl rfl

theorem pushWord_push_storesOnly (w : Word) (b : Byte) (s : State) :
    StoresOnly [stackSlot s 0, stackSlot s 1, stackSlot s 2] s ((s.pushWord w).push b) := by
  rw [pushWord_push_eq_slots]
  have h : StoresOnly [stackSlot s 0, stackSlot s 1, stackSlot s 2] s s := .of_mem rfl rfl
  exact (((h.busWrite (by simp) _).busWrite (by simp) _).busWrite (by simp) _).congr rfl rfl

theorem interruptSequence_storesOnly (ret : Word) (b : Bool) (vector : Word) (s : State) :
    StoresOnly [stackSlot s 0, stackSlot s 1, stackSlot s 2] s (s.interruptSequence ret b vector) :=
  (pushWord_push_storesOnly ret (s.p.toByte b) s).congr (by simp) (interruptSequence_mem ret b vector s)

/-! ### The shapes -/

/-- A mnemonic whose memory operand is written stores at the effective address of its operand. -/
theorem storedAddresses_of_storing {i : Instr} {o : MemOperand} (hm : i.mnemonic ∈ storing)
    (ho : i.operand = .memory o) (s : State) : storedAddresses i s = [(locate o s).ea] := by
  rw [storedAddresses, if_pos (List.contains_iff_mem.mpr hm), ho]

theorem storeByte_storing {m : Mnemonic} {g : Byte → State → Byte} (hg : storeByte m = some g) : m ∈ storing := by
  cases m <;> cases hg <;> decide

theorem modifyAction_storing {m : Mnemonic} {g : Byte → Status → Byte → Computed} (hg : modifyAction m = some g) :
    m ∈ storing := by
  cases m <;> cases hg <;> decide

/-- Every instruction stores at RAM addresses that it names, and nowhere else. -/
theorem exec_storesOnly {i : Instr} {s t : State} (h : exec i s = .next t) :
    StoresOnly (storedAddresses i s) s t := by
  have hr := exec_runs h
  generalize hm : i.mnemonic = m at hr
  generalize ho : i.operand = o at hr
  cases hr
  case read g hg src =>
    have hf := fetchSource_readOnly src s
    refine .of_mem ?_ ((readAction_mem hg _ _).trans hf.mem)
    exact (exec_keepsRegisters h).map
  case store g hg n =>
    rw [storedAddresses_of_storing (hm ▸ storeByte_storing hg) ho]
    exact (((locate_readOnly n s).storesOnly _).busWrite (by simp) _).congr rfl rfl
  case modify g hg n =>
    rw [storedAddresses_of_storing (hm ▸ modifyAction_storing hg) ho]
    exact (((located_read_readOnly n s).storesOnly _).busWrite (by simp) _).congr rfl rfl
  case short g hg hs hw =>
    by_cases hp : m = .pha ∨ m = .php
    · have hl : storedAddresses i s = [stackSlot s 0] := by
        rcases hp with rfl | rfl <;> simp [storedAddresses, storing, hm]
      have hpush : ∃ v, g s = s.push v := by
        rcases hp with rfl | rfl <;> cases hg <;> exact ⟨_, rfl⟩
      obtain ⟨v, hv⟩ := hpush
      rw [hl, hv, push_eq_slot]
      have h0 : StoresOnly [stackSlot s 0] s s := .of_mem rfl rfl
      exact (h0.busWrite (by simp) v).congr rfl rfl
    · rw [not_or] at hp
      exact .of_mem (exec_keepsRegisters h).map (shortAction_mem hg hp.1 hp.2 s)
  case branch g hg r => exact .of_mem rfl rfl
  case shs hs w =>
    rw [storedAddresses_of_storing (by rw [hm, hs]; decide) ho]
    have hsp : StoresOnly [(locate (.aby w) s).ea] s (s.setSp (s.a &&& s.x)) := .of_mem rfl rfl
    rw [shs_aby]
    exact (hsp.busWrite (by simp [locate]) _).congr rfl rfl
  case jmp hs w => exact .of_mem rfl rfl
  case jmpIndirect hs w => exact ((readIndirect_readOnly w s).storesOnly _).congr rfl rfl
  case jsr hs w =>
    have hl : storedAddresses i s = [stackSlot s 0, stackSlot s 1] := by simp [storedAddresses, storing, hm, hs]
    rw [hl]
    exact (pushWord_storesOnly _ s).congr rfl rfl
  case rts hs => exact ((pullWord_readOnly s).storesOnly _).congr rfl rfl
  case brk hs =>
    have hl : storedAddresses i s = [stackSlot s 0, stackSlot s 1, stackSlot s 2] := by
      simp [storedAddresses, storing, hm, hs]
    rw [hl]
    exact interruptSequence_storesOnly _ _ _ s
  case rti hs => exact (returnFromInterrupt_readOnly s).storesOnly _
  case jam hs => exact .of_mem rfl rfl

/-! ### A whole step -/

theorem takeNmi_storesOnly (s : State) : ∃ l, StoresOnly l s s.takeNmi := by
  have h := interruptSequence_storesOnly s.pc false nmiVector { s with nmiPending := false }
  exact ⟨_, h.of_base rfl rfl⟩

theorem takeIrq_storesOnly (s : State) : ∃ l, StoresOnly l s s.takeIrq :=
  ⟨_, interruptSequence_storesOnly s.pc false irqVector s⟩

theorem takeNmi_inputs (s : State) : s.takeNmi.inputs = s.inputs := interruptSequence_inputs _ _ _ _

theorem takeIrq_inputs (s : State) : s.takeIrq.inputs = s.inputs := interruptSequence_inputs _ _ _ _

/-- A step stores bytes at RAM addresses and keeps the map; it uses up one input sample. -/
theorem step_storesOnly {s t : State} (h : step s = .next t) :
    (∃ l, StoresOnly l s t) ∧ t.inputs = s.inputs.tail := by
  rcases step_cases h with ⟨-, rfl⟩ | ⟨-, -, rfl⟩ | ⟨-, -, -, rfl⟩ | ⟨-, -, -, -, -, rfl⟩ | ⟨-, -, -, -, he⟩
  · have hr := resetSequence_readOnly s.dropSample
    exact ⟨⟨[], .of_mem hr.map hr.mem⟩, hr.inputs⟩
  · exact ⟨⟨[], .of_mem rfl rfl⟩, rfl⟩
  · obtain ⟨l, hl⟩ := takeNmi_storesOnly (s.dropSample.latchNmi s.sample.nmi)
    exact ⟨⟨l, hl.of_base rfl rfl⟩, takeNmi_inputs _⟩
  · obtain ⟨l, hl⟩ := takeIrq_storesOnly (s.dropSample.latchNmi s.sample.nmi)
    exact ⟨⟨l, hl.of_base rfl rfl⟩, takeIrq_inputs _⟩
  · have hf := fetch_readOnly (s.dropSample.latchNmi s.sample.nmi)
    have hl := exec_storesOnly he
    exact ⟨⟨_, hl.of_base hf.map hf.mem⟩, (exec_keepsRegisters he).inputs.trans hf.inputs⟩

/-- A step always answers a next state: exec does, and so does every event of a boundary. -/
theorem step_next (s : State) : ∃ t, step s = .next t := by
  unfold step
  cases s.boundary with
  | event t => exact ⟨t, rfl⟩
  | instruction t => exact ⟨_, exec_eq_meaning _ _⟩

theorem step_wf {s t : State} (hs : s.wf) (h : step s = .next t) : t.wf := by
  obtain ⟨⟨l, -, hmem⟩, -⟩ := step_storesOnly h
  exact hmem.wf hs

theorem reaches_wf {s t : State} (hs : s.wf) (h : Reaches s t) : t.wf := by
  induction h with
  | start => exact hs
  | later _ hstep ih => exact step_wf ih hstep

end Sys2Proof.Machine

namespace Sys2Proof.Proofs

open Sys2Proof.Machine Sys2Proof.Claims

/-- Settles O13: a step stores bytes at RAM addresses, and storing keeps the canonical form. -/
theorem stepKeepsMemoryCanonical : Obligations.StepKeepsMemoryCanonical := fun _ _ hs h => step_wf hs h

/-- Settles O10: every event is a state, and exec answers a next state for every instruction. -/
theorem stepNeverStops : Obligations.StepNeverStops := step_next

/-- Settles O15: what is no RAM is stored to by no step. -/
theorem stepChangesOnlyRam : Obligations.StepChangesOnlyRam := by
  intro s t h
  obtain ⟨⟨l, hmap, hmem⟩, hin⟩ := step_storesOnly h
  exact ⟨hmap, hin, fun addr hk => hmem.read_other (.inr hk)⟩

/-- Settles O16: an instruction stores only at the addresses it names. -/
theorem instructionsStoreOnlyWhereTheyName : Obligations.InstructionsStoreOnlyWhereTheyName := by
  intro i s t addr h ha
  obtain ⟨-, hmem⟩ := exec_storesOnly h
  exact hmem.read_other (.inl ha)

/-- Settles O22: the canonical form is kept along the run, and every step answers. -/
theorem runsFromWellFormedStatesAreSafe : Obligations.RunsFromWellFormedStatesAreSafe :=
  fun _ hs t h => ⟨reaches_wf hs h, step_next t⟩

/-- Settles O14: nothing is listed in the reset memory. -/
theorem resetMemoryIsCanonical : Obligations.ResetMemoryIsCanonical := Memory.wf_nil

/-- Settles O12: the write is the one to RAM, a stored address reads memory. -/
theorem readAfterWriteGivesTheByte : Obligations.ReadAfterWriteGivesTheByte := by
  intro s addr other v hwf hram hother
  have hother' : (s.busWrite addr v).stored other := by rwa [State.stored, busWrite_map]
  rw [busRead_stored hother', busRead_stored hother, busWrite_ram hram]
  simp only [Memory.read_write hwf, BitVec.toNat_inj]

/-- Settles O11: a read and a write, for each kind of region. -/
theorem busAccessByRegionKind : Obligations.BusAccessByRegionKind := by
  intro s addr v
  refine ⟨fun h => ?ram, fun h => ?rom, fun h => ?unmapped, fun h => ?device⟩
  case ram => exact ⟨busRead_stored (.inl h), busWrite_ram h v⟩
  case rom => exact ⟨busRead_stored (.inr h), by rw [State.busWrite, h]⟩
  case unmapped => exact ⟨⟨_, by rw [State.busRead, h]; rfl⟩, by rw [State.busWrite, h]⟩
  case device => exact ⟨⟨_, by rw [State.busRead, h]; rfl⟩, by rw [State.busWrite, h]⟩

end Sys2Proof.Proofs
end

section
/-! One step as a whole: which instruction it runs (R73, R313), what a masked IRQ, the halted state and the decimal flag
can do (R22, R204, R300, R314), and that nothing looks at the count of cycles (R84, R360). -/

namespace Sys2Proof.Machine

open Claims

/-! ### The boundary -/

theorem step_of_event {s t : State} (hb : s.boundary = .event t) : step s = .next t := by
  rw [step, hb]

theorem step_of_instruction {s u : State} (hb : s.boundary = .instruction u) : step s = exec u.fetch.1 u.fetch.2 := by
  rw [step, hb]

/-- What a boundary that fetches an instruction goes on from: the sample is used up, an NMI edge is latched. -/
theorem boundary_instruction_eq {s u : State} (hb : s.boundary = .instruction u) :
    u = s.dropSample.latchNmi s.sample.nmi := by
  rcases boundary_cases s with ⟨-, h⟩ | ⟨-, -, h⟩ | ⟨-, -, -, h⟩ | ⟨-, -, -, -, -, h⟩ | ⟨-, -, -, -, h⟩ <;>
    cases h.symm.trans hb
  rfl

/-- A boundary with RESET asserted is the reset sequence, whatever else is asserted. -/
theorem boundary_reset {s : State} (h : s.sample.reset = true) : s.boundary = .event s.dropSample.resetSequence := by
  simp [State.boundary, h]

/-- A boundary of a halted core, without RESET, is the end of the step. -/
theorem boundary_halted {s : State} (hr : s.sample.reset = false) (hh : s.halted = true) :
    s.boundary = .event (s.dropSample.latchNmi s.sample.nmi) := by
  have hlive : (s.dropSample.latchNmi s.sample.nmi).halted = true := hh
  simp [State.boundary, hr, hlive]

theorem boundary_quiet {s : State} (hq : s.quiet) : s.boundary = .instruction { s with inputs := s.inputs.tail } := by
  obtain ⟨hr, hh, hp, hn, hi⟩ := hq
  have hlive : s.dropSample.latchNmi s.sample.nmi = { s with inputs := s.inputs.tail } := by
    rw [State.latchNmi, hn, Bool.or_false]
    rfl
  have hirq : (s.sample.irq && !s.p.i) = false := by
    rcases hi with h | h <;> simp [h]
  simp only [State.boundary, hr, hlive]
  simp [hh, hp, hirq]

/-! ### What a step that runs no instruction keeps -/

/-- A step without RESET that runs no instruction keeps D and the halted state. -/
theorem event_keeps {s t : State} (hr : s.sample.reset = false) (hb : s.boundary = .event t) :
    t.p.d = s.p.d ∧ t.halted = s.halted := by
  rcases boundary_cases s with ⟨h, -⟩ | ⟨-, -, h⟩ | ⟨-, -, -, h⟩ | ⟨-, -, -, -, -, h⟩ | ⟨-, -, -, -, h⟩
  · rw [hr] at h
    cases h
  · cases h.symm.trans hb
    exact ⟨rfl, rfl⟩
  · cases h.symm.trans hb
    exact ⟨by rw [State.takeNmi, interruptSequence_p]; rfl, by rw [State.takeNmi, interruptSequence_halted]; rfl⟩
  · cases h.symm.trans hb
    exact ⟨by rw [State.takeIrq, interruptSequence_p]; rfl, by rw [State.takeIrq, interruptSequence_halted]; rfl⟩
  · cases h.symm.trans hb

/-- A mnemonic that can change D is one of four (R204). -/
theorem flagRow_d {m : Mnemonic} (hm : m ∉ [Mnemonic.sed, .cld, .plp, .rti]) : (flagRow m).d = .keeps := by
  revert hm
  cases m <;> decide

/-- An instruction that can not change D keeps it. -/
theorem exec_keeps_d {i : Instr} {s t : State} (hm : i.mnemonic ∉ [Mnemonic.sed, .cld, .plp, .rti])
    (h : exec i s = .next t) : t.p.d = s.p.d := by
  obtain ⟨-, -, hd, -⟩ := exec_flags h
  rwa [flagRow_d hm] at hd

/-! ### The fetch -/

theorem fetch_f1 {s : State} {i : Instr} (hs : s.stored s.pc) (hf : opcodeForm (s.mem.read s.pc.toNat) = .f1 i) :
    s.fetch = (i, s) := by
  simp only [State.fetch, busRead_stored hs, hf]

theorem fetch_f2 {s : State} {k : Byte → Instr} (hs : s.stored s.pc) (hs1 : s.stored (s.pc + 1))
    (hf : opcodeForm (s.mem.read s.pc.toNat) = .f2 k) : s.fetch = (k (s.mem.read (s.pc + 1).toNat), s) := by
  simp only [State.fetch, busRead_stored hs, hf, busRead_stored hs1]

theorem fetch_f3 {s : State} {k : Word → Instr} (hs : s.stored s.pc) (hs1 : s.stored (s.pc + 1))
    (hs2 : s.stored (s.pc + 2)) (hf : opcodeForm (s.mem.read s.pc.toNat) = .f3 k) :
    s.fetch = (k (word (s.mem.read (s.pc + 2).toNat) (s.mem.read (s.pc + 1).toNat)), s) := by
  simp only [State.fetch, busRead_stored hs, hf, readPair_stored hs1 hs2]

/-- The bytes at PC that decode to an instruction, if they can be read, are fetched as that instruction. -/
theorem fetch_of_decode {s : State} {n : Nat} {i : Instr} (hs : ∀ k < n, s.stored (s.pc + BitVec.ofNat 16 k))
    (hd : decode ((List.range n).map fun k => s.mem.read (s.pc + BitVec.ofNat 16 k).toNat) = .ok (i, [])) :
    s.fetch = (i, s) := by
  obtain ⟨op, b, w, hbytes, rfl⟩ := decode_eq_ok hd
  have hn : n = ((opcodeForm op).operands b w).length + 1 := by simpa using congrArg List.length hbytes
  cases hf : opcodeForm op with
  | f1 j =>
    rw [hf] at hn hbytes
    subst hn
    obtain rfl : s.mem.read s.pc.toNat = op := by simpa [Form.operands, List.range_succ, -BitVec.toNat_add] using hbytes
    exact fetch_f1 (by simpa using hs 0) hf
  | f2 k =>
    rw [hf] at hn hbytes
    subst hn
    obtain ⟨rfl, hb⟩ : s.mem.read s.pc.toNat = op ∧ s.mem.read (s.pc + 1).toNat = b := by
      simpa [Form.operands, List.range_succ, -BitVec.toNat_add] using hbytes
    rw [Form.fill, ← hb]
    exact fetch_f2 (by simpa using hs 0) (hs 1 (by simp [Form.operands])) hf
  | f3 k =>
    rw [hf] at hn hbytes
    subst hn
    obtain ⟨rfl, hl, hh⟩ : s.mem.read s.pc.toNat = op ∧ s.mem.read (s.pc + 1).toNat = loByte w ∧
        s.mem.read (s.pc + 2).toNat = hiByte w := by
      simpa [Form.operands, List.range_succ, -BitVec.toNat_add] using hbytes
    rw [Form.fill, ← word_hiByte_loByte w, ← hl, ← hh]
    exact fetch_f3 (by simpa using hs 0) (hs 1 (by simp [Form.operands])) (hs 2 (by simp [Form.operands])) hf

end Sys2Proof.Machine

namespace Sys2Proof.Proofs

open Sys2Proof.Machine Sys2Proof.Claims

/-- Settles O7: a quiet boundary fetches, and the bytes that decode are what is fetched. -/
theorem stepRunsTheDecodedInstruction : Obligations.StepRunsTheDecodedInstruction := by
  intro s n i hq hs hd
  rw [step_of_instruction (boundary_quiet hq), fetch_of_decode (s := { s with inputs := s.inputs.tail }) hs hd]

/-- Settles O8: without the IRQ the sample's other inputs and the rest of the inputs are the same, and I = 1 masks it. -/
theorem maskedIrqIsNotSeen : Obligations.MaskedIrqIsNotSeen := by
  intro s hi
  have hdrop : (withoutIrq s).dropSample = s.dropSample := by
    rw [withoutIrq, State.dropSample]
    cases hin : s.inputs <;> simp [State.dropSample, hin]
  have hsample : (withoutIrq s).sample = { s.sample with irq := false } := by
    rw [withoutIrq, State.sample, State.sample]
    cases s.inputs <;> rfl
  have hmask : (s.dropSample.latchNmi s.sample.nmi).p.i = true := hi
  have hb : s.boundary = (withoutIrq s).boundary := by
    simp [State.boundary, hdrop, hsample, hmask]
  rw [step, step, hb]

/-- Settles O9: RESET ends the halt, a halted core without it stutters, and of the instructions only JAM halts. -/
theorem onlyJamHaltsAndOnlyResetEndsIt : Obligations.OnlyJamHaltsAndOnlyResetEndsIt := by
  refine ⟨rfl, fun s hh hr => step_of_event (boundary_halted hr hh), fun s hr => ?reset, fun s t h hs ht => ?jam⟩
  case reset => exact ⟨_, step_of_event (boundary_reset hr), (resetSequence_readOnly s.dropSample).halted⟩
  case jam =>
    cases hb : s.boundary with
    | event u =>
      obtain rfl := Host.Outcome.next.inj ((step_of_event hb).symm.trans h)
      cases hr : s.sample.reset with
      | true =>
        cases (boundary_reset hr).symm.trans hb
        exact absurd ht (by simp [(resetSequence_readOnly s.dropSample).halted, State.resetRegisters])
      | false =>
        obtain ⟨-, hkeep⟩ := event_keeps hr hb
        exact absurd ht (by simp [hkeep, hs])
    | instruction u =>
      refine ⟨u, rfl, by_contra fun hm => ?_⟩
      have hkeep := (exec_keepsRegisters ((step_of_instruction hb).symm.trans h)).halted hm
      rw [(fetch_readOnly u).halted, boundary_instruction_eq hb] at hkeep
      exact Bool.noConfusion (ht.symm.trans (hkeep.trans hs))

/-- Settles O19: no event but a reset changes D, and of the instructions only four have it in their flags table. -/
theorem decimalFlagChangesOnlyBySoftware : Obligations.DecimalFlagChangesOnlyBySoftware := by
  intro s t h
  cases hr : s.sample.reset with
  | true => exact .inr (.inl rfl)
  | false =>
    cases hb : s.boundary with
    | event u =>
      obtain rfl := Host.Outcome.next.inj ((step_of_event hb).symm.trans h)
      exact .inl (event_keeps hr hb).1
    | instruction u =>
      by_cases hm : u.fetch.1.mnemonic ∈ [Mnemonic.sed, .cld, .plp, .rti]
      · exact .inr (.inr ⟨u, rfl, hm⟩)
      · have hd := exec_keeps_d hm ((step_of_instruction hb).symm.trans h)
        rw [(fetch_readOnly u).p, boundary_instruction_eq hb] at hd
        exact .inl hd

end Sys2Proof.Proofs
end

section
/-! Nothing looks at the count of cycles (R84, R360): every operation, every shape and every step commutes with adding
cycles beforehand. -/

namespace Sys2Proof.Machine

open Claims

variable (n : Nat) (s : State)

/-! ### The shared operations -/

theorem busRead_tick (addr : Word) :
    (s.tick n).busRead addr = ((s.busRead addr).1, (s.busRead addr).2.tick n) := by
  unfold State.busRead
  rw [State.tick_map]
  cases kindAt s.map addr <;> rfl

theorem busWrite_tick (addr : Word) (v : Byte) : (s.tick n).busWrite addr v = (s.busWrite addr v).tick n := by
  unfold State.busWrite
  rw [State.tick_map]
  cases kindAt s.map addr <;> rfl

theorem readPair_tick (lo hi : Word) :
    (s.tick n).readPair lo hi = ((s.readPair lo hi).1, (s.readPair lo hi).2.tick n) := by
  simp only [State.readPair, busRead_tick]

theorem push_tick (v : Byte) : (s.tick n).push v = (s.push v).tick n := by
  rw [push_eq, push_eq, State.tick_sp, busWrite_tick]
  rfl

theorem pushWord_tick (w : Word) : (s.tick n).pushWord w = (s.pushWord w).tick n := by
  simp only [State.pushWord, push_tick]

theorem pull_tick : (s.tick n).pull = (s.pull.1, s.pull.2.tick n) :=
  busRead_tick n (s.setSp (s.sp + 1)) (stackAddress (s.sp + 1))

theorem pullWord_tick : (s.tick n).pullWord = (s.pullWord.1, s.pullWord.2.tick n) := by
  simp only [State.pullWord, pull_tick]

/-- Cycles counted before and after add up in either order. -/
theorem tick_comm (k : Nat) : (s.tick n).tick k = (s.tick k).tick n := by
  simp only [State.tick, Nat.add_right_comm]

theorem setP_tick (p : Status) : (s.tick n).setP p = (s.setP p).tick n := rfl

theorem setSp_tick (v : Byte) : (s.tick n).setSp v = (s.setSp v).tick n := rfl

theorem setPc_tick (w : Word) : (s.tick n).setPc w = (s.setPc w).tick n := rfl

theorem finish_tick (l c : Nat) : (s.tick n).finish l c = (s.finish l c).tick n :=
  tick_comm n (s.setPc _) c

theorem interruptSequence_tick (ret : Word) (b : Bool) (vector : Word) :
    (s.tick n).interruptSequence ret b vector = (s.interruptSequence ret b vector).tick n := by
  simp only [State.interruptSequence, pushWord_tick, push_tick, State.tick_p, setP_tick, State.readWord, readPair_tick,
    setPc_tick]
  exact tick_comm _ _ _

theorem returnFromInterrupt_tick : (s.tick n).returnFromInterrupt = s.returnFromInterrupt.tick n := by
  simp only [State.returnFromInterrupt, pull_tick, setP_tick, pullWord_tick, setPc_tick]
  exact tick_comm _ _ _

theorem resetSequence_tick : (s.tick n).resetSequence = s.resetSequence.tick n := by
  have hr : (s.tick n).resetRegisters = s.resetRegisters.tick n := rfl
  simp only [State.resetSequence, hr, State.readWord, readPair_tick, setPc_tick]
  exact tick_comm _ _ _

theorem locate_tick (m : MemOperand) :
    locate m (s.tick n) = { locate m s with after := (locate m s).after.tick n } := by
  cases m
  case izx b | izy b =>
    simp only [locate, State.tick_x, State.tick_y, readPair_tick]
  all_goals rfl

theorem fetchSource_tick (src : Source) :
    fetchSource src (s.tick n) = { fetchSource src s with after := (fetchSource src s).after.tick n } := by
  cases src with
  | imm d => rfl
  | mem m => simp only [fetchSource, locate_tick, busRead_tick]

theorem storeTo_tick (m : MemOperand) (v : Byte) : storeTo m v (s.tick n) = (storeTo m v s).tick n := by
  simp only [storeTo_eq, locate_tick, busWrite_tick]

/-! ### The tables and the shapes -/

theorem readAction_tick {m : Mnemonic} {g : Byte → State → State} (hg : readAction m = some g) (v : Byte) :
    g v (s.tick n) = (g v s).tick n := by
  cases m <;> cases hg <;> rfl

theorem storeByte_tick {m : Mnemonic} {g : Byte → State → Byte} (hg : storeByte m = some g) (h : Byte) :
    g h (s.tick n) = g h s := by
  cases m <;> cases hg <;> rfl

theorem shortAction_tick {m : Mnemonic} {g : State → State} (hg : shortAction m = some g) :
    g (s.tick n) = (g s).tick n := by
  cases m <;> cases hg
  case pha | php => exact push_tick n s _
  case pla | plp =>
    simp only [pull_tick]
    rfl
  all_goals rfl

theorem into_tick (r : Computed) : r.into (s.tick n) = (r.into s).tick n := rfl

theorem modifyRule_tick (g : Byte → Status → Byte → Computed) (m : MemOperand) :
    modifyRule g m (s.tick n) = (modifyRule g m s).tick n := by
  simp only [modifyRule, locate_tick, busRead_tick, busWrite_tick, State.tick_a, State.tick_p, into_tick, finish_tick]

/-- What a mnemonic does with an operand does not depend on the count of cycles. -/
theorem meaning_tick {m : Mnemonic} {o : Operand} (hw : formWf m o = true) :
    meaning m o (s.tick n) = (meaning m o s).tick n := by
  have hr := meaning_runs hw s
  generalize ht : meaning m o s = t at hr
  cases hr
  case read g hg src =>
    rw [meaning_read hg hw, readRule, fetchSource_tick, readAction_tick n _ hg]
    exact finish_tick _ _ _ _
  case store g hg a =>
    rw [meaning_store hg, storeRule, storeByte_tick n s hg, storeTo_tick, locate_tick]
    exact finish_tick _ _ _ _
  case modify g hg a => rw [meaning_modify hg, modifyRule_tick]
  case short g hg ho _ => rw [meaning_short hg ho hw, shortAction_tick n s hg, finish_tick]
  case branch g hg r =>
    rw [meaning_branch hg]
    exact tick_comm n (s.setPc _) _
  case shs hs w =>
    subst hs
    change shs _ _ = _
    simp only [shs_aby, State.tick_a, State.tick_x, State.tick_y, setSp_tick, busWrite_tick, finish_tick]
  case jmp hs w =>
    subst hs
    exact tick_comm n (s.setPc _) _
  case jmpIndirect hs w =>
    subst hs
    change jmpIndirect _ _ = _
    simp only [jmpIndirect, readIndirect, readPair_tick, setPc_tick]
    exact tick_comm n _ _
  case jsr hs w =>
    subst hs
    change jsr _ _ = _
    simp only [jsr, State.tick_pc, pushWord_tick, setPc_tick]
    exact tick_comm n _ _
  case rts hs =>
    subst hs
    change rts _ = _
    simp only [rts, pullWord_tick, setPc_tick]
    exact tick_comm n _ _
  case brk hs =>
    subst hs
    exact interruptSequence_tick _ _ _ _ _
  case rti hs =>
    subst hs
    exact returnFromInterrupt_tick n s
  case jam hs =>
    subst hs
    rfl

theorem exec_tick {i : Instr} {t : State} (h : exec i s = .next t) : exec i (s.tick n) = .next (t.tick n) := by
  rw [exec_eq_meaning, meaning_tick n s (formWf_instr i), ← exec_next h]

/-! ### The step -/

theorem fetch_tick : (s.tick n).fetch = (s.fetch.1, s.fetch.2.tick n) := by
  simp only [State.fetch, State.tick_pc, busRead_tick, readPair_tick]
  cases opcodeForm (s.busRead s.pc).1 <;> rfl

/-- What a boundary decides, with `n` cycles more counted. -/
def Boundary.tick (n : Nat) : Boundary → Boundary
  | .event t => .event (t.tick n)
  | .instruction t => .instruction (t.tick n)

theorem takeNmi_tick : (s.tick n).takeNmi = s.takeNmi.tick n :=
  interruptSequence_tick n { s with nmiPending := false } _ _ _

theorem takeIrq_tick : (s.tick n).takeIrq = s.takeIrq.tick n := interruptSequence_tick _ _ _ _ _

theorem boundary_tick : (s.tick n).boundary = s.boundary.tick n := by
  have hdrop : (s.tick n).dropSample = s.dropSample.tick n := rfl
  have hlatch : (s.dropSample.tick n).latchNmi s.sample.nmi = (s.dropSample.latchNmi s.sample.nmi).tick n := rfl
  have hsample : (s.tick n).sample = s.sample := rfl
  simp only [State.boundary, hsample, hdrop, resetSequence_tick, hlatch, takeNmi_tick, takeIrq_tick, State.tick_halted,
    State.tick_nmiPending, State.tick_p]
  split_ifs <;> rfl

theorem step_tick {t : State} (h : step s = .next t) : step (s.tick n) = .next (t.tick n) := by
  have hb := boundary_tick n s
  cases hs : s.boundary with
  | event u =>
    rw [hs] at hb
    obtain rfl := Host.Outcome.next.inj ((step_of_event hs).symm.trans h)
    exact step_of_event hb
  | instruction u =>
    rw [hs] at hb
    rw [step_of_instruction hs] at h
    rw [step_of_instruction hb, fetch_tick]
    exact exec_tick n _ h

end Sys2Proof.Machine

namespace Sys2Proof.Proofs

open Sys2Proof.Machine

/-- Settles O21: the step answers, and it commutes with adding cycles. -/
theorem cycleCountInfluencesNothing : Obligations.CycleCountInfluencesNothing := by
  intro s n
  obtain ⟨t, ht⟩ := step_next s
  exact ⟨t, ht, step_tick n s ht⟩

end Sys2Proof.Proofs
end

section
/-! The families of `40_addressing.md` and `10_state.md`: effective addresses and page crossings (R104 to R110), the
operand read (R100, R103), the status byte (R20, R21), push and pull (R116, R117), and the cycle table (R361). -/

namespace Sys2Proof.Machine

open Claims

/-! ### Addresses as numbers -/

theorem toNat_zext16 (b : Byte) : (zext16 b).toNat = b.toNat := by
  simp only [zext16, BitVec.toNat_setWidth]
  omega

theorem toNat_zeroPage (b : Byte) : (zeroPage b).toNat = b.toNat := toNat_zext16 b

theorem toNat_hiByte (w : Word) : (hiByte w).toNat = w.toNat / 256 := by
  simp only [hiByte, BitVec.extractLsb'_toNat, Nat.shiftRight_eq_div_pow]
  omega

theorem toNat_loByte (w : Word) : (loByte w).toNat = w.toNat % 256 := by
  simp only [loByte, BitVec.extractLsb'_toNat, Nat.shiftRight_eq_div_pow]
  omega

theorem toNat_word (hi lo : Byte) : (word hi lo).toNat = hi.toNat * 256 + lo.toNat := by
  have hhi := toNat_hiByte (word hi lo)
  have hlo := toNat_loByte (word hi lo)
  rw [hiByte_word] at hhi
  rw [loByte_word] at hlo
  omega

/-- A page is crossed when the high bytes differ. -/
theorem pageCrossed_iff (base target : Word) :
    pageCrossed base target = true ↔ target.toNat / 256 ≠ base.toNat / 256 := by
  rw [pageCrossed, bne_iff_ne, ne_eq, ← BitVec.toNat_inj, toNat_hiByte, toNat_hiByte]

theorem pageCrossed_self (w : Word) : pageCrossed w w = false := by
  simp [pageCrossed]

theorem toNat_add_zext16 (w : Word) (b : Byte) : (w + zext16 b).toNat = (w.toNat + b.toNat) % 65536 := by
  rw [BitVec.toNat_add, toNat_zext16]

/-- Indexing crosses a page when the low byte and the index pass 256. -/
theorem pageCrossed_add_iff (w : Word) (b : Byte) :
    pageCrossed w (w + zext16 b) = true ↔ w.toNat % 256 + b.toNat ≥ 256 := by
  rw [pageCrossed_iff, toNat_add_zext16]
  have hw := w.isLt
  have hb := b.isLt
  omega

/-- No address of page 0 is in another page than one of page 0. -/
theorem pageCrossed_zeroPage (b c : Byte) : pageCrossed (zeroPage b) (zeroPage c) = false := by
  rw [Bool.eq_false_iff, ne_eq, pageCrossed_iff, toNat_zeroPage, toNat_zeroPage]
  have hb := b.isLt
  have hc := c.isLt
  omega

/-! ### The pointer modes -/

/-- The pointer of `($nn,X)`, if it can be read, is the word at `$nn + X` in page 0. -/
theorem locate_izx_stored {s : State} {b : Byte} (hl : s.stored (zeroPage (b + s.x)))
    (hh : s.stored (zeroPage (b + s.x + 1))) :
    locate (.izx b) s =
      { base := word (s.mem.read (zeroPage (b + s.x + 1)).toNat) (s.mem.read (zeroPage (b + s.x)).toNat)
        ea := word (s.mem.read (zeroPage (b + s.x + 1)).toNat) (s.mem.read (zeroPage (b + s.x)).toNat)
        after := s } := by
  simp only [locate, readPair_stored hl hh]

/-- The pointer of `($nn),Y`, if it can be read, is the word at `$nn` in page 0. -/
theorem locate_izy_stored {s : State} {b : Byte} (hl : s.stored (zeroPage b)) (hh : s.stored (zeroPage (b + 1))) :
    locate (.izy b) s =
      { base := word (s.mem.read (zeroPage (b + 1)).toNat) (s.mem.read (zeroPage b).toNat)
        ea := word (s.mem.read (zeroPage (b + 1)).toNat) (s.mem.read (zeroPage b).toNat) + zext16 s.y
        after := s } := by
  simp only [locate, readPair_stored hl hh]

/-! ### The status byte -/

theorem Status.toNat_toByte (p : Status) (b : Bool) : (p.toByte b).toNat =
    p.n.toNat * 128 + p.v.toNat * 64 + 32 + b.toNat * 16 + p.d.toNat * 8 + p.i.toNat * 4 + p.z.toNat * 2 +
      p.c.toNat := by
  have hn := p.n.toNat_le
  have hv := p.v.toNat_le
  have hb := b.toNat_le
  have hd := p.d.toNat_le
  have hi := p.i.toNat_le
  have hz := p.z.toNat_le
  have hc := p.c.toNat_le
  simp only [Status.toByte, BitVec.toNat_ofNat]
  omega

theorem Byte.getLsbD_eq_decide (v : Byte) (k : Nat) : v.getLsbD k = decide (v.toNat / 2 ^ k % 2 = 1) :=
  Nat.testBit_eq_decide_div_mod_eq

theorem Status.ofByte_eq (v : Byte) : Status.ofByte v =
    { n := decide (v.toNat / 128 % 2 = 1), v := decide (v.toNat / 64 % 2 = 1), d := decide (v.toNat / 8 % 2 = 1),
      i := decide (v.toNat / 4 % 2 = 1), z := decide (v.toNat / 2 % 2 = 1), c := decide (v.toNat % 2 = 1) } := by
  simp only [Status.ofByte, Byte.getLsbD_eq_decide, Nat.reducePow, Nat.div_one]

theorem decide_eq_one_of_toNat (b : Bool) (k : Nat) (h : k = b.toNat) : decide (k = 1) = b := by
  cases b <;> simp [h]

/-- What is pulled is what was pushed: bits 5 and 4 are no flags. -/
theorem Status.ofByte_toByte (p : Status) (b : Bool) : Status.ofByte (p.toByte b) = p := by
  have hn := p.n.toNat_le
  have hv := p.v.toNat_le
  have hb := b.toNat_le
  have hd := p.d.toNat_le
  have hi := p.i.toNat_le
  have hz := p.z.toNat_le
  have hc := p.c.toNat_le
  rw [Status.ofByte_eq, Status.toNat_toByte]
  rw [decide_eq_one_of_toNat p.n _ (by omega), decide_eq_one_of_toNat p.v _ (by omega),
    decide_eq_one_of_toNat p.d _ (by omega), decide_eq_one_of_toNat p.i _ (by omega),
    decide_eq_one_of_toNat p.z _ (by omega), decide_eq_one_of_toNat p.c _ (by omega)]

/-- Taking P from a byte does not look at bits 4 and 5. -/
theorem Status.ofByte_xor_spare (v : Byte) :
    Status.ofByte (v ^^^ 0x10#8) = Status.ofByte v ∧ Status.ofByte (v ^^^ 0x20#8) = Status.ofByte v := by
  simp [Status.ofByte]

/-! ### Push and pull -/

/-- A pull right after a push of RAM gives the byte and the old S. -/
theorem pull_push {s : State} (hwf : s.mem.wf) (hram : kindAt s.map (stackAddress s.sp) = .ram) (v : Byte) :
    (s.push v).pull = (v, { s with mem := s.mem.write (stackAddress s.sp).toNat v }) := by
  have hsp : (s.push v).sp + 1 = s.sp := by rw [push_sp, BitVec.sub_add_cancel]
  have hstored : (s.push v).stored (stackAddress ((s.push v).sp + 1)) := by
    rw [hsp, State.stored, push_map]
    exact .inl hram
  rw [pull_stored hstored, hsp, push_mem, busWrite_ram hram, push_eq, busWrite_ram hram]
  simp only [Memory.read_write_same hwf]
  rfl

end Sys2Proof.Machine

namespace Sys2Proof.Proofs

open Sys2Proof.Machine Sys2Proof.Claims

/-- Settles O23: each mode's address as a number; a page is crossed when the low byte and the index pass 256. -/
theorem directModesComputeTheirAddress : Obligations.DirectModesComputeTheirAddress := by
  intro s b w
  refine ⟨?direct, ?reads, toNat_zeroPage b, ?zpx, ?zpy, rfl, toNat_add_zext16 w s.x, toNat_add_zext16 w s.y,
    pageCrossed_add_iff w s.x, pageCrossed_add_iff w s.y⟩
  case direct =>
    simp only [List.forall_mem_cons]
    exact ⟨pageCrossed_self _, pageCrossed_zeroPage _ _, pageCrossed_zeroPage _ _, pageCrossed_self _, by simp⟩
  case reads => simp [locate]
  case zpx => exact (toNat_zeroPage _).trans (BitVec.toNat_add _ _)
  case zpy => exact (toNat_zeroPage _).trans (BitVec.toNat_add _ _)

/-- Settles O24: the pointer is the word in page 0, and Y is added to it. -/
theorem pointerModesComputeTheirAddress : Obligations.PointerModesComputeTheirAddress := by
  constructor
  · intro s b z l hl hh
    have hloc : l = _ := locate_izx_stored hl hh
    rw [hloc]
    refine ⟨?_, pageCrossed_self _, rfl⟩
    rw [toNat_word, toNat_zeroPage, toNat_zeroPage, BitVec.toNat_add (b + s.x) 1]
    rfl
  · intro s b l lo hi hl hh
    have hloc : l = _ := locate_izy_stored hl hh
    have hbase : (word (s.mem.read (zeroPage (b + 1)).toNat) (s.mem.read (zeroPage b).toNat)).toNat =
        hi * 256 + lo := by
      rw [toNat_word, toNat_zeroPage, toNat_zeroPage, BitVec.toNat_add b 1]
      rfl
    have hlo : lo < 256 := (s.mem.read b.toNat).isLt
    rw [hloc]
    refine ⟨hbase, ?_, ?_, rfl⟩
    · rw [toNat_add_zext16, hbase]
    · rw [pageCrossed_add_iff, hbase]
      omega

/-- Settles O25: the byte as a number, the flags as its bits. -/
theorem statusByteHoldsTheFlags : Obligations.StatusByteHoldsTheFlags :=
  ⟨Status.toNat_toByte, Status.ofByte_eq, Status.ofByte_xor_spare, Status.ofByte_toByte⟩

/-- Settles O27: push and pull are their definitions with S as it was before, and `pull_push` takes them together. -/
theorem pushAndPullUseTheStackSlot : Obligations.PushAndPullUseTheStackSlot := by
  refine ⟨fun s v => push_eq v s, fun s => rfl, fun s v hwf hram => ?_⟩
  rw [pull_push hwf hram]
  exact ⟨rfl, rfl⟩

/-- Settles O57: an immediate is its byte; a memory operand is read after the reads of its mode, which only read. -/
theorem operandReadIsTheOneReadOfItsAddress : Obligations.OperandReadIsTheOneReadOfItsAddress := by
  refine fun s => ⟨fun d => rfl, fun m => ?_⟩
  intro l
  have hl : ReadOnly s l.after := locate_readOnly m s
  have hcross : pageCrossed l.base l.ea = decide (l.ea.toNat / 256 ≠ l.base.toNat / 256) := by
    rw [Bool.eq_iff_iff, pageCrossed_iff, decide_eq_true_iff]
  refine ⟨?_, hl, hl.trans (busRead_readOnly _ _), fun hs => ?_⟩
  · rw [← hcross]
    rfl
  · have hs' : l.after.stored l.ea := by rwa [State.stored, hl.map]
    rw [busRead_stored hs', hl.mem]

/-- Settles O58: the table is evaluated mode by mode. -/
theorem cycleTableByMode : Obligations.CycleTableByMode := by
  intro b w crossed
  cases crossed <;> exact ⟨fun _ => rfl, rfl, rfl, fun _ => rfl⟩

end Sys2Proof.Proofs
end

section
/-! The families of `41_load_store.md` to `46_incdec.md`, `48_branch_flags.md` and `49_jam_nop.md`: what each mnemonic
does by every mode. The shapes give the answer of exec; what is left is that the model's flags are the claims'. -/

namespace Sys2Proof.Claims

open Machine

/-- The claims' comparison flags are the model's `Compare`. -/
theorem compared_eq (p : Status) (reg m : Byte) : compared p reg m = compareFlags p reg m := by
  have hz : decide (reg = m) = ((reg - m) == 0x00#8) := by
    rw [beq_eq_decide, decide_eq_decide]
    constructor
    · rintro rfl
      exact BitVec.sub_self reg
    · intro h
      rw [← BitVec.sub_add_cancel reg m, h, BitVec.zero_add]
  rw [compared, compareFlags, hz]

/-! The claims' shifts, in arithmetic, are the model's, in bits. -/

theorem shifted_asl (b : Byte) (c : Bool) : shifted .asl b c = ((aslByte b c).value, (aslByte b c).carry) := by
  refine Prod.ext (BitVec.eq_of_toNat_eq ?_) (Byte.getLsbD_seven b).symm
  simp only [shifted, aslByte, BitVec.toNat_ofNat, BitVec.toNat_shiftLeft, Nat.shiftLeft_eq]
  omega

theorem shifted_lsr (b : Byte) (c : Bool) : shifted .lsr b c = ((lsrByte b c).value, (lsrByte b c).carry) := by
  refine Prod.ext (BitVec.eq_of_toNat_eq ?_) ?_
  · simp only [shifted, lsrByte, BitVec.toNat_ofNat, BitVec.toNat_ushiftRight, Nat.shiftRight_eq_div_pow]
    omega
  · simp only [shifted, lsrByte, Byte.getLsbD_eq_decide, Nat.pow_zero, Nat.div_one]

theorem toNat_ofBool_setWidth (c : Bool) : ((BitVec.ofBool c).setWidth 8).toNat = c.toNat := by
  cases c <;> rfl

theorem shifted_rol (b : Byte) (c : Bool) : shifted .rol b c = ((rolByte b c).value, (rolByte b c).carry) := by
  refine Prod.ext (BitVec.eq_of_toNat_eq ?_) (Byte.getLsbD_seven b).symm
  have hc := c.toNat_le
  have hor := Nat.two_pow_add_eq_or_of_lt (i := 1) (b := c.toNat) (by omega) (b.toNat % 128)
  have hlow : b.toNat * 2 % 256 = 2 ^ 1 * (b.toNat % 128) := by omega
  simp only [shifted, rolByte, BitVec.toNat_ofNat, BitVec.toNat_or, BitVec.toNat_shiftLeft, Nat.shiftLeft_eq,
    toNat_ofBool_setWidth, Nat.reducePow] at hor hlow ⊢
  rw [hlow, ← hor]
  omega

theorem shifted_ror (b : Byte) (c : Bool) : shifted .ror b c = ((rorByte b c).value, (rorByte b c).carry) := by
  refine Prod.ext (BitVec.eq_of_toNat_eq ?_) ?_
  · have hc := c.toNat_le
    have hb := b.isLt
    have hor := Nat.two_pow_add_eq_or_of_lt (i := 7) (b := b.toNat / 2) (by omega) c.toNat
    have hhigh : c.toNat * 128 % 256 = 2 ^ 7 * c.toNat := by omega
    simp only [shifted, rorByte, BitVec.toNat_ofNat, BitVec.toNat_or, BitVec.toNat_shiftLeft, Nat.shiftLeft_eq,
      BitVec.toNat_ushiftRight, Nat.shiftRight_eq_div_pow, toNat_ofBool_setWidth, Nat.reducePow,
      Nat.pow_one] at hor hhigh ⊢
    rw [hhigh, Nat.or_comm, ← hor]
    omega
  · simp only [shifted, rorByte, Byte.getLsbD_eq_decide, Nat.pow_zero, Nat.div_one]

end Sys2Proof.Claims

namespace Sys2Proof.Machine

open Claims

/-- A read does not look at S. -/
theorem busRead_setSp (addr : Word) (sp : Byte) (s : State) :
    (s.setSp sp).busRead addr = ((s.busRead addr).1, (s.busRead addr).2.setSp sp) := by
  unfold State.busRead
  rw [State.setSp_map]
  cases kindAt s.map addr <;> rfl

/-- A pull is a read at the slot above, and S one higher. -/
theorem pull_eq_slot (s : State) :
    s.pull = ((s.busRead (stackAddress (s.sp + 1))).1,
      (afterRead s (s.busRead (stackAddress (s.sp + 1))).2).setSp (s.sp + 1)) := by
  rw [← (busRead_readOnly _ s).eq_afterRead]
  exact busRead_setSp _ _ s

/-- A byte one higher, modulo 256. -/
theorem Byte.add_one_eq (v : Byte) : BitVec.ofNat 8 ((v.toNat + 1) % 256) = v + 1 := by
  apply BitVec.eq_of_toNat_eq
  simp [BitVec.toNat_add]

/-- A byte one lower, modulo 256. -/
theorem Byte.sub_one_eq (v : Byte) : BitVec.ofNat 8 ((v.toNat + 255) % 256) = v - 1 := by
  apply BitVec.eq_of_toNat_eq
  simp [BitVec.toNat_sub, Nat.add_comm]

/-! ### Rotates over and over -/

/-- Running one instruction `k` times: if each run maps A and C by `f`, then all of them map them by `f` iterated. -/
theorem iterate_exec {i : Instr} {f : Byte × Bool → Byte × Bool} {run : Result → Result}
    (hrun : ∀ u, run (.next u) = exec i u)
    (hexec : ∀ u, ∃ t, exec i u = .next t ∧ (t.a, t.p.c) = f (u.a, u.p.c)) (k : Nat) :
    ∀ s, ∃ t, run^[k] (.next s) = .next t ∧ (t.a, t.p.c) = f^[k] (s.a, s.p.c) := by
  induction k with
  | zero => exact fun s => ⟨s, rfl, rfl⟩
  | succ k ih =>
    intro s
    obtain ⟨u, hu, hfu⟩ := hexec s
    obtain ⟨t, ht, hft⟩ := ih u
    refine ⟨t, ?_, ?_⟩
    · rw [Function.iterate_succ_apply, hrun, hu, ht]
    · rw [Function.iterate_succ_apply, ← hfu, hft]

/-- A rotate on the byte and the carry together. -/
def rotatePair (f : Byte → Bool → ShiftResult) (q : Byte × Bool) : Byte × Bool :=
  ((f q.1 q.2).value, (f q.1 q.2).carry)

/-- Nine rotates left of byte and carry come round. -/
theorem rotatePair_rol_nine : ∀ q, (rotatePair rolByte)^[9] q = q := by
  decide +kernel

/-- Nine rotates right of byte and carry come round. -/
theorem rotatePair_ror_nine : ∀ q, (rotatePair rorByte)^[9] q = q := by
  decide +kernel

/-- If nine turns of `f` come round, nine runs of an instruction that maps A and C by `f` restore them. -/
theorem nine_execs_restore {i : Instr} {f : Byte × Bool → Byte × Bool} {run : Result → Result}
    (hrun : ∀ u, run (.next u) = exec i u)
    (hexec : ∀ u, ∃ t, exec i u = .next t ∧ (t.a, t.p.c) = f (u.a, u.p.c)) (hnine : ∀ q, f^[9] q = q) (s : State) :
    ∃ t, run^[9] (.next s) = .next t ∧ t.a = s.a ∧ t.p.c = s.p.c := by
  obtain ⟨t, ht, h⟩ := iterate_exec hrun hexec 9 s
  rw [hnine, Prod.mk.injEq] at h
  exact ⟨t, ht, h⟩

/-- ARR's two modes as one record, the rotate in arithmetic (R221). -/
theorem arrResult_eq (d : Bool) (t : Byte) (c : Bool) :
    let r := BitVec.ofNat 8 (t.toNat / 2 + 128 * c.toNat)
    arrResult d t c =
      { value := r
        v := if d then r.getLsbD 6 != t.getLsbD 6 else r.getLsbD 6 != r.getLsbD 5
        c := if d then decide ((t &&& 0xF0#8).toNat + (t &&& 0x10#8).toNat > 0x50) else r.getLsbD 6 } := by
  intro r
  have hr : r = (rorByte t c).value := congrArg Prod.fst (shifted_ror t c)
  rw [hr]
  cases d <;> rfl

/-- The flags of LSR in arithmetic: the result has bit 7 = 0 (R182, R222). -/
theorem setNZ_lsrByte (p : Status) (t : Byte) (c : Bool) :
    ({ p with c := (lsrByte t c).carry } : Status).setNZ (lsrByte t c).value =
      { p with n := false, z := decide (t.toNat / 2 = 0), c := decide (t.toNat % 2 = 1) } := by
  have hvalue : (lsrByte t c).value.toNat = t.toNat / 2 := by
    simp [lsrByte, Nat.shiftRight_eq_div_pow]
  have hcarry : (lsrByte t c).carry = decide (t.toNat % 2 = 1) := (congrArg Prod.snd (shifted_lsr t c)).symm
  have hbound : ¬ t.toNat / 2 ≥ 128 := by
    have ht := t.isLt
    omega
  rw [Status.setNZ_eq, hvalue, hcarry, decide_eq_false hbound]

/-- The four shifts and rotates differ in the function of the byte alone. -/
theorem tables_of_shift {m : Mnemonic} (hm : m ∈ [Mnemonic.asl, .lsr, .rol, .ror]) :
    ∃ f, (∀ b c, shifted m b c = ((f b c).value, (f b c).carry)) ∧ shortAction m = some (shiftA f) ∧
      modifyAction m = some (.ofShift f) ∧ shortCycles m = 2 := by
  simp only [List.mem_cons, List.not_mem_nil, or_false] at hm
  rcases hm with rfl | rfl | rfl | rfl
  · exact ⟨aslByte, shifted_asl, rfl, rfl, rfl⟩
  · exact ⟨lsrByte, shifted_lsr, rfl, rfl, rfl⟩
  · exact ⟨rolByte, shifted_rol, rfl, rfl, rfl⟩
  · exact ⟨rorByte, shifted_ror, rfl, rfl, rfl⟩

end Sys2Proof.Machine

namespace Sys2Proof.Proofs

open Sys2Proof.Machine Sys2Proof.Claims

/-! ### Loads and stores -/

/-- Settles O28: each load is its action in the table, on the state after the read. -/
theorem loadsWriteTheirRegisters : Obligations.LoadsWriteTheirRegisters := by
  intro i src s ho
  simp only [nz_eq_setNZ]
  refine ⟨fun hm => ?_, fun hm => ?_, fun hm => ?_, fun hm => ?_, fun hm => ?_⟩ <;>
    exact exec_read (by rw [hm]; rfl) ho s

/-- Settles O29: each store is its byte in the table. -/
theorem storesWriteOneByte : Obligations.StoresWriteOneByte := by
  intro i m s ho
  refine ⟨fun hm => ?_, fun hm => ?_, fun hm => ?_, fun hm => ?_⟩ <;> exact exec_store (by rw [hm]; rfl) ho s

/-- Settles O30: the high-byte stores are the table's, with the base of their mode. -/
theorem highByteStoresUseTheUnindexedAddress : Obligations.HighByteStoresUseTheUnindexedAddress := by
  intro s w b
  refine ⟨?_, ?_, ?_, ?_, ?_⟩
  · exact exec_store (i := .shaAby w) (m := .aby w) rfl rfl s
  · exact exec_store (i := .shx w) (m := .aby w) rfl rfl s
  · exact exec_store (i := .shy w) (m := .abx w) rfl rfl s
  · exact congrArg Host.Outcome.next (shs_aby w s)
  · exact exec_store (i := .shaIzy b) (m := .izy b) rfl rfl s

/-- Settles O35: AND, EOR, ORA and BIT are their actions in the table. -/
theorem logicCombinesWithAccumulator : Obligations.LogicCombinesWithAccumulator := by
  intro i src s ho
  simp only [nz_eq_setNZ, ← beq_eq_decide]
  refine ⟨fun hm => ?_, fun hm => ?_, fun hm => ?_, fun hm => ?_⟩ <;> exact exec_read (by rw [hm]; rfl) ho s

/-- Settles O39: ADC and SBC are their actions in the table, in the arithmetic that D selects. -/
theorem addAndSubtractByEveryMode : Obligations.AddAndSubtractByEveryMode := by
  intro i src s ho
  exact ⟨fun hm => exec_read (g := State.adc) (by rw [hm]; rfl) ho s,
    fun hm => exec_read (g := State.sbc) (by rw [hm]; rfl) ho s⟩

/-- Settles O40: the comparisons are their actions in the table, `compared_eq` gives the flags. -/
theorem comparesWriteOnlyFlags : Obligations.ComparesWriteOnlyFlags := by
  intro i src s ho
  simp only [compared_eq]
  exact ⟨fun hm => exec_read (by rw [hm]; rfl) ho s, fun hm => exec_read (by rw [hm]; rfl) ho s,
    fun hm => exec_read (by rw [hm]; rfl) ho s⟩

/-! ### Stack -/

/-- Settles O32: a push is a write at its slot, a pull a read at the slot above. -/
theorem stackInstructionsMoveOneByte : Obligations.StackInstructionsMoveOneByte := by
  refine ⟨rfl, rfl, rfl, rfl, fun s => ?_⟩
  simp only [nz_eq_setNZ]
  refine ⟨?pha, ?php, ?pla, ?plp⟩
  case pha => exact (exec_short rfl (.inl rfl) s).trans (by rw [push_eq_slot]; rfl)
  case php => exact (exec_short rfl (.inl rfl) s).trans (by rw [push_eq_slot]; rfl)
  case pla => exact (exec_short rfl (.inl rfl) s).trans (by rw [pull_eq_slot]; rfl)
  case plp => exact (exec_short rfl (.inl rfl) s).trans (by rw [pull_eq_slot]; rfl)

/-! ### Shifts, rotates, increments -/

/-- Settles O33: on A the one-byte form, in memory the read/modify/write that keeps A; `shifted` is the model's shift. -/
theorem shiftsWriteBackAndSetCarry : Obligations.ShiftsWriteBackAndSetCarry := by
  intro i s hm
  obtain ⟨f, hf, hshort, hmodify, hcycles⟩ := tables_of_shift hm
  simp only [nz_eq_setNZ, hf]
  refine ⟨fun ho => ?_, fun m ho => ?_⟩
  · have h := exec_short hshort (.inr ho) s
    rwa [hcycles] at h
  · exact exec_modify_keep hmodify ho s fun _ _ _ => rfl

/-- Settles O34: each ROL A or ROR A is one turn of the nine bits of A and C. -/
theorem nineRotatesRestoreAccumulatorAndCarry : Obligations.NineRotatesRestoreAccumulatorAndCarry := by
  intro s
  constructor
  · exact nine_execs_restore (i := .rolAcc) (fun _ => rfl) (fun u => ⟨_, rfl, rfl⟩) rotatePair_rol_nine s
  · exact nine_execs_restore (i := .rorAcc) (fun _ => rfl) (fun u => ⟨_, rfl, rfl⟩) rotatePair_ror_nine s

/-- Settles O44: memory by the read/modify/write that keeps A, the registers by the one-byte form. -/
theorem incrementsAndDecrementsWrap : Obligations.IncrementsAndDecrementsWrap := by
  simp only [Obligations.IncrementsAndDecrementsWrap, Byte.add_one_eq, Byte.sub_one_eq, nz_eq_setNZ]
  refine ⟨rfl, rfl, rfl, rfl, fun i m s ho => ⟨fun hm => ?inc, fun hm => ?dec⟩, fun s => ⟨?inx, ?iny, ?dex, ?dey⟩⟩
  case inc => exact exec_modify_keep (g := .ofStep (· + 1)) (by rw [hm]; rfl) ho s fun _ _ _ => rfl
  case dec => exact exec_modify_keep (g := .ofStep (· - 1)) (by rw [hm]; rfl) ho s fun _ _ _ => rfl
  case inx => exact exec_short (i := .inx) rfl (.inl rfl) s
  case iny => exact exec_short (i := .iny) rfl (.inl rfl) s
  case dex => exact exec_short (i := .dex) rfl (.inl rfl) s
  case dey => exact exec_short (i := .dey) rfl (.inl rfl) s

/-! ### Undocumented arithmetic -/

/-- Settles O43: each pair is what its mnemonic computes in the table; `shifted` is the model's shift. -/
theorem readModifyWritePairs : Obligations.ReadModifyWritePairs := by
  intro i m s ho
  simp only [nz_eq_setNZ, compared_eq, shifted_asl, shifted_lsr, shifted_rol, shifted_ror]
  refine ⟨fun hm => ?dcp, fun hm => ?isc, fun hm => ?rla, fun hm => ?rra, fun hm => ?slo, fun hm => ?sre⟩
  case dcp => exact exec_modify_keep (g := .ofDcp) (by rw [hm]; rfl) ho s fun _ _ _ => rfl
  case isc => exact exec_modify (g := .ofIsc) (by rw [hm]; rfl) ho s
  case rla => exact exec_modify (g := .ofShiftThen rolByte (· &&& ·)) (by rw [hm]; rfl) ho s
  case rra => exact exec_modify (g := .ofRra) (by rw [hm]; rfl) ho s
  case slo => exact exec_modify (g := .ofShiftThen aslByte (· ||| ·)) (by rw [hm]; rfl) ho s
  case sre => exact exec_modify (g := .ofShiftThen lsrByte (· ^^^ ·)) (by rw [hm]; rfl) ho s

/-- Settles O41: each is its action in the table; ASR and ARR shift in arithmetic. -/
theorem undocumentedImmediateArithmetic : Obligations.UndocumentedImmediateArithmetic := by
  intro s d t r u
  refine ⟨?anc, ?asr, ?arr, ?sbx⟩
  case anc =>
    simp only [nz_eq_setNZ, List.forall_mem_cons]
    exact ⟨exec_read (i := .ancImm0B d) (src := .imm d) rfl rfl s,
      exec_read (i := .ancImm2B d) (src := .imm d) rfl rfl s, nofun⟩
  case asr =>
    have ht : BitVec.ofNat 8 (t.toNat / 2) = (lsrByte t s.p.c).value := congrArg Prod.fst (shifted_lsr t s.p.c)
    rw [ht, ← setNZ_lsrByte s.p t s.p.c]
    exact exec_read (i := .asr d) (src := .imm d) rfl rfl s
  case arr =>
    have h := exec_read (i := .arr d) (src := .imm d) rfl rfl s
    simp only [fetchSource, afterRead, arrResult_eq] at h
    rw [nz_eq_setNZ]
    exact h
  case sbx =>
    rw [nz_eq_setNZ]
    exact exec_read (i := .sbx d) (src := .imm d) rfl rfl s

/-- Settles O42: the free byte is the witness. -/
theorem xaaWritesSomeByteWithItsFlags : Obligations.XaaWritesSomeByteWithItsFlags := by
  refine fun s d => ⟨Config.freeByte s.draws, ?_⟩
  rw [nz_eq_setNZ]
  exact exec_read (i := .xaa d) (src := .imm d) rfl rfl s

/-! ### Flag instructions, JAM and NOP -/

/-- Settles O50: each is `exec_implied` at the flag it writes. -/
theorem flagInstructionsWriteOneFlag : Obligations.FlagInstructionsWriteOneFlag := by
  refine ⟨rfl, rfl, rfl, rfl, rfl, rfl, rfl, fun s => ⟨?_, ?_, ?_, ?_, ?_, ?_, ?_⟩⟩ <;> exact exec_implied rfl rfl

/-- Settles O51: JAM is its meaning, a NOP the one-byte form or the operand read, with no action. -/
theorem jamHaltsAndNopOnlyMovesOn : Obligations.JamHaltsAndNopOnlyMovesOn := by
  refine fun i s => ⟨fun hm => ?jam, fun hm ho => ?implied, fun src hm ho => ?read⟩
  case jam =>
    rw [exec_eq_meaning, hm]
    rfl
  case implied =>
    have h := exec_short (i := i) (g := fun s => s) (by rw [hm]; rfl) (.inl ho) s
    rwa [hm] at h
  case read => exact exec_read (g := fun _ t => t) (by rw [hm]; rfl) ho s

end Sys2Proof.Proofs
end

section
/-! The family of `44_arith.md`: the flags and values of binary and decimal addition and subtraction, as arithmetic on the
operands as numbers (R200, R205 to R208, R210). -/

namespace Sys2Proof.Machine

open Claims

/-! ### Bytes as signed numbers -/

theorem Byte.toInt_eq (b : Byte) : b.toInt = if b.toNat < 128 then (b.toNat : Int) else b.toNat - 256 := by
  rw [BitVec.toInt_eq_toNat_cond]
  split <;> split <;> omega

/-- The mask $80 leaves bit 7. -/
theorem Byte.and_0x80_ne_zero (b : Byte) : ((b &&& 0x80#8) != 0x00#8) = b.getLsbD 7 := by
  have h : b &&& 0x80#8 = if b.getLsbD 7 then 0x80#8 else 0x00#8 := BitVec.and_twoPow b 7
  rw [h]
  cases b.getLsbD 7 <;> rfl

theorem Byte.toNat_xor_0xFF (b : Byte) : (b ^^^ 0xFF#8).toNat = 255 - b.toNat := by
  have h : b ^^^ 0xFF#8 = ~~~b := BitVec.xor_allOnes
  rw [h, BitVec.toNat_not]

theorem Byte.toNat_ofNat (n : Nat) : (BitVec.ofNat 8 n).toNat = n % 256 := BitVec.toNat_ofNat n 8

theorem Byte.toNat_ofInt (z : Int) : ((BitVec.ofInt 8 z).toNat : Int) = z % 256 := by
  rw [BitVec.toNat_ofInt]
  omega

/-! ### Binary addition -/

theorem binaryAdc_toNat (a m : Byte) (c : Bool) : (binaryAdc a m c).value.toNat = (a.toNat + m.toNat + c.toNat) % 256 :=
  Byte.toNat_ofNat _

theorem binaryAdc_c (a m : Byte) (c : Bool) : (binaryAdc a m c).c = decide (a.toNat + m.toNat + c.toNat > 255) := rfl

/-- V says that both operands have a sign which the result has not. -/
theorem binaryAdc_v (a m : Byte) (c : Bool) :
    (binaryAdc a m c).v = ((a.getLsbD 7 ^^ (binaryAdc a m c).value.getLsbD 7) &&
      (m.getLsbD 7 ^^ (binaryAdc a m c).value.getLsbD 7)) := by
  rw [← BitVec.getLsbD_xor, ← BitVec.getLsbD_xor, ← BitVec.getLsbD_and, ← Byte.and_0x80_ne_zero]
  rfl

/-- V says that the signed sum does not fit a byte. -/
theorem binaryAdc_v_iff (a m : Byte) (c : Bool) :
    (binaryAdc a m c).v = true ↔ a.toInt + m.toInt + c.toNat < -128 ∨ 127 < a.toInt + m.toInt + c.toNat := by
  have hr := binaryAdc_toNat a m c
  have ha := a.isLt
  have hm := m.isLt
  have hc := c.toNat_le
  rw [binaryAdc_v, Bool.and_eq_true, bne_iff_ne, bne_iff_ne, Byte.getLsbD_seven, Byte.getLsbD_seven, Byte.getLsbD_seven,
    Byte.toInt_eq, Byte.toInt_eq, hr, ne_eq, ne_eq, decide_eq_decide, decide_eq_decide]
  split <;> split <;> omega

/-! ### Binary subtraction -/

/-- Subtraction is the addition of the complement (R210). -/
theorem binarySbc_eq_binaryAdc (a m : Byte) (c : Bool) : binarySbc a m c = binaryAdc a (m ^^^ 0xFF#8) c := by
  have hm := m.isLt
  have hc := c.toNat_le
  have hvalue : BitVec.ofInt 8 ((a.toNat : Int) - m.toNat - (1 - c.toNat)) =
      BitVec.ofNat 8 (a.toNat + (m ^^^ 0xFF#8).toNat + c.toNat) := by
    apply BitVec.eq_of_toNat_eq
    have h := Byte.toNat_ofInt ((a.toNat : Int) - m.toNat - (1 - c.toNat))
    rw [Byte.toNat_ofNat, Byte.toNat_xor_0xFF]
    omega
  have hcarry : decide ((a.toNat : Int) - m.toNat - (1 - c.toNat) ≥ 0) =
      decide (a.toNat + (m ^^^ 0xFF#8).toNat + c.toNat > 255) := by
    rw [decide_eq_decide, Byte.toNat_xor_0xFF]
    omega
  have hoverflow : ∀ r : Byte, (((a ^^^ m) &&& (a ^^^ r) &&& 0x80#8) != 0x00#8) =
      (((a ^^^ r) &&& ((m ^^^ 0xFF#8) ^^^ r) &&& 0x80#8) != 0x00#8) := by
    intro r
    simp only [Byte.and_0x80_ne_zero, BitVec.getLsbD_and, BitVec.getLsbD_xor]
    cases a.getLsbD 7 <;> cases m.getLsbD 7 <;> cases r.getLsbD 7 <;> rfl
  rw [binarySbc, binaryAdc]
  simp only [hvalue, hcarry, hoverflow]

theorem Byte.toInt_xor_0xFF (b : Byte) : (b ^^^ 0xFF#8).toInt = -1 - b.toInt := by
  have hb := b.isLt
  rw [Byte.toInt_eq, Byte.toInt_eq, Byte.toNat_xor_0xFF]
  split <;> split <;> omega

theorem binarySbc_v_iff (a m : Byte) (c : Bool) :
    (binarySbc a m c).v = true ↔
      a.toInt - m.toInt - (1 - c.toNat) < -128 ∨ 127 < a.toInt - m.toInt - (1 - c.toNat) := by
  rw [binarySbc_eq_binaryAdc, binaryAdc_v_iff, Byte.toInt_xor_0xFF]
  omega

theorem binarySbc_toNat (a m : Byte) (c : Bool) :
    ((binarySbc a m c).value.toNat : Int) = ((a.toNat : Int) - m.toNat - (1 - c.toNat)) % 256 :=
  Byte.toNat_ofInt _

/-! ### Decimal addition and subtraction -/

/-- The mask $F0 leaves the high digit. -/
theorem Byte.toNat_and_0xF0 (b : Byte) : (b &&& 0xF0#8).toNat = b.toNat / 16 * 16 := by
  have h : b &&& 0xF0#8 = (b >>> 4) <<< 4 := by
    apply BitVec.eq_of_getLsbD_eq
    intro i hi
    interval_cases i <;> simp
  rw [h, BitVec.toNat_shiftLeft, BitVec.toNat_ushiftRight, Nat.shiftLeft_eq, Nat.shiftRight_eq_div_pow]
  have hb := b.isLt
  omega

theorem Byte.toInt_and_0xF0 (b : Byte) : (b &&& 0xF0#8).toInt = b.toInt - (b.toNat % 16 : Nat) := by
  rw [Byte.toInt_eq, Byte.toInt_eq, Byte.toNat_and_0xF0]
  split <;> split <;> omega

/-- Decimal ADC in arithmetic (R207). -/
theorem decimalAdc_eq (a m : Byte) (c : Bool) :
    let sum := a.toNat / 16 * 16 + m.toNat / 16 * 16 + decimalAdcLow a m c
    let signedSum := (a.toInt - (a.toNat % 16 : Nat)) + (m.toInt - (m.toNat % 16 : Nat)) + decimalAdcLow a m c
    decimalAdc a m c =
      { value := BitVec.ofNat 8 (if 0xA0 ≤ sum then sum + 0x60 else sum)
        n := decide (sum / 128 % 2 = 1)
        v := decide (signedSum < -128 ∨ 127 < signedSum)
        z := decide ((a.toNat + m.toNat + c.toNat) % 256 = 0)
        c := decide (0xA0 ≤ sum) } := by
  intro sum signedSum
  have hcarry : (if 0xA0 ≤ sum then sum + 0x60 else sum) ≥ 0x100 ↔ 0xA0 ≤ sum := by
    split <;> omega
  rw [decimalAdc]
  simp only [Byte.toNat_and_0xF0, Byte.toInt_and_0xF0, Nat.testBit_eq_decide_div_mod_eq, beq_eq_decide]
  rw [ArithResult.mk.injEq]
  exact ⟨rfl, rfl, rfl, rfl, decide_eq_decide.mpr hcarry⟩

/-- Decimal SBC in arithmetic: the flags are those of the binary difference (R208). -/
theorem decimalSbc_eq (a m : Byte) (c : Bool) :
    let difference : Int := (a.toNat : Int) - m.toNat - (1 - c.toNat)
    let whole : Int := (a.toNat / 16 * 16 : Nat) - (m.toNat / 16 * 16 : Nat) + decimalSbcLow a m c
    decimalSbc a m c =
      { value := BitVec.ofInt 8 (if whole < 0 then whole - 0x60 else whole)
        n := decide (128 ≤ difference % 256)
        v := decide (a.toInt - m.toInt - (1 - c.toNat) < -128 ∨ 127 < a.toInt - m.toInt - (1 - c.toNat))
        z := decide (difference % 256 = 0)
        c := decide (0 ≤ difference) } := by
  intro difference whole
  have hvalue := binarySbc_toNat a m c
  have hn : (binarySbc a m c).n = decide (128 ≤ difference % 256) := by
    have h : (binarySbc a m c).n = (binarySbc a m c).value.getLsbD 7 := rfl
    rw [h, Byte.getLsbD_seven, decide_eq_decide]
    omega
  have hz : (binarySbc a m c).z = decide (difference % 256 = 0) := by
    have h : (binarySbc a m c).z = ((binarySbc a m c).value == 0x00#8) := rfl
    rw [h, Byte.beq_zero, decide_eq_decide]
    omega
  have hv : (binarySbc a m c).v = _ := Bool.eq_iff_iff.mpr ((binarySbc_v_iff a m c).trans decide_eq_true_iff.symm)
  rw [decimalSbc, hn, hz, hv]
  simp only [Byte.toNat_and_0xF0]
  rfl

/-! ### Packed BCD -/

/-- A number below 100 by its two digits. -/
theorem exists_digits {n : Nat} (hn : n < 100) : ∃ h l, h < 10 ∧ l < 10 ∧ n = 10 * h + l :=
  ⟨n / 10, n % 10, by omega, by omega, by omega⟩

/-- A packed BCD byte has the digits in its two halves. -/
theorem toNat_bcd {h l : Nat} (hh : h < 10) (hl : l < 10) : (bcd (10 * h + l)).toNat = 16 * h + l := by
  rw [bcd, Byte.toNat_ofNat]
  omega

/-- A natural number, cut to a byte, is the packed BCD byte of the digits it is made of. -/
theorem ofNat_eq_bcd {k n h l : Nat} (hh : h < 10) (hl : l < 10) (hn : n = 10 * h + l) (hk : k % 256 = 16 * h + l) :
    BitVec.ofNat 8 k = bcd n := by
  apply BitVec.eq_of_toNat_eq
  rw [hn, toNat_bcd hh hl, Byte.toNat_ofNat, hk]

/-- The same for an integer. -/
theorem ofInt_eq_bcd {z : Int} {n h l : Nat} (hh : h < 10) (hl : l < 10) (hn : n = 10 * h + l)
    (hz : z % 256 = 16 * h + l) : BitVec.ofInt 8 z = bcd n := by
  have hz' := Byte.toNat_ofInt z
  apply BitVec.eq_of_toNat_eq
  rw [hn, toNat_bcd hh hl]
  omega

section Digits

variable {x u y v : Nat} (hx : x < 10) (hu : u < 10) (hy : y < 10) (hv : v < 10) (c : Bool)

include hx hu hy hv

/-- The low digit of a decimal addition: past 9 it is moved on by 6. -/
theorem decimalAdcLow_bcd : decimalAdcLow (bcd (10 * x + u)) (bcd (10 * y + v)) c =
    if u + v + c.toNat ≥ 10 then u + v + c.toNat + 6 else u + v + c.toNat := by
  have hc := c.toNat_le
  have hlu : (16 * x + u) % 16 = u := by omega
  have hlv : (16 * y + v) % 16 = v := by omega
  rw [decimalAdcLow, toNat_bcd hx hu, toNat_bcd hy hv, hlu, hlv]
  split
  · omega
  · rfl

/-- The low digit of a decimal subtraction: with a borrow it is moved back by 6. -/
theorem decimalSbcLow_bcd : decimalSbcLow (bcd (10 * x + u)) (bcd (10 * y + v)) c =
    if (u : Int) - v + c.toNat - 1 < 0 then (u : Int) - v + c.toNat - 7 else (u : Int) - v + c.toNat - 1 := by
  have hc := c.toNat_le
  have hlu : (16 * x + u) % 16 = u := by omega
  have hlv : (16 * y + v) % 16 = v := by omega
  rw [decimalSbcLow, toNat_bcd hx hu, toNat_bcd hy hv, hlu, hlv]
  split
  · omega
  · rfl

/-- Decimal addition of two packed BCD bytes, by the carries out of the two digits. -/
theorem decimalAdc_bcd :
    (decimalAdc (bcd (10 * x + u)) (bcd (10 * y + v)) c).value = bcd ((10 * x + u + (10 * y + v) + c.toNat) % 100) ∧
      (decimalAdc (bcd (10 * x + u)) (bcd (10 * y + v)) c).c = decide (10 * x + u + (10 * y + v) + c.toNat > 99) := by
  have hc := c.toNat_le
  have hhx : (16 * x + u) / 16 * 16 = 16 * x := by omega
  have hhy : (16 * y + v) / 16 * 16 = 16 * y := by omega
  rw [decimalAdc_eq, toNat_bcd hx hu, toNat_bcd hy hv, hhx, hhy, decimalAdcLow_bcd hx hu hy hv c]
  simp only
  by_cases hl : u + v + c.toNat ≥ 10
  · rw [if_pos hl]
    by_cases hh : x + y + 1 ≥ 10
    · rw [if_pos (by omega)]
      exact ⟨ofNat_eq_bcd (h := x + y + 1 - 10) (l := u + v + c.toNat - 10) (by omega) (by omega) (by omega) (by omega),
        decide_eq_decide.mpr (by omega)⟩
    · rw [if_neg (by omega)]
      exact ⟨ofNat_eq_bcd (h := x + y + 1) (l := u + v + c.toNat - 10) (by omega) (by omega) (by omega) (by omega),
        decide_eq_decide.mpr (by omega)⟩
  · rw [if_neg hl]
    by_cases hh : x + y ≥ 10
    · rw [if_pos (by omega)]
      exact ⟨ofNat_eq_bcd (h := x + y - 10) (l := u + v + c.toNat) (by omega) (by omega) (by omega) (by omega),
        decide_eq_decide.mpr (by omega)⟩
    · rw [if_neg (by omega)]
      exact ⟨ofNat_eq_bcd (h := x + y) (l := u + v + c.toNat) (by omega) (by omega) (by omega) (by omega),
        decide_eq_decide.mpr (by omega)⟩

/-- Decimal subtraction of two packed BCD bytes, by the borrows into the two digits. -/
theorem decimalSbc_bcd :
    (decimalSbc (bcd (10 * x + u)) (bcd (10 * y + v)) c).value =
        bcd ((((10 * x + u : Nat) : Int) - (10 * y + v : Nat) - (1 - c.toNat)) % 100).toNat ∧
      (decimalSbc (bcd (10 * x + u)) (bcd (10 * y + v)) c).c =
        decide (((10 * x + u : Nat) : Int) - (10 * y + v : Nat) - (1 - c.toNat) ≥ 0) := by
  have hc := c.toNat_le
  have hhx : (16 * x + u) / 16 * 16 = 16 * x := by omega
  have hhy : (16 * y + v) / 16 * 16 = 16 * y := by omega
  rw [decimalSbc_eq, toNat_bcd hx hu, toNat_bcd hy hv, hhx, hhy, decimalSbcLow_bcd hx hu hy hv c]
  simp only
  refine ⟨?_, decide_eq_decide.mpr (by omega)⟩
  by_cases hl : (u : Int) - v + c.toNat - 1 < 0
  · rw [if_pos hl]
    by_cases hh : x < y + 1
    · rw [if_pos (by omega)]
      exact ofInt_eq_bcd (h := x + 9 - y) (l := u + 9 + c.toNat - v) (by omega) (by omega) (by omega) (by omega)
    · rw [if_neg (by omega)]
      exact ofInt_eq_bcd (h := x - 1 - y) (l := u + 9 + c.toNat - v) (by omega) (by omega) (by omega) (by omega)
  · rw [if_neg hl]
    by_cases hh : x < y
    · rw [if_pos (by omega)]
      exact ofInt_eq_bcd (h := x + 10 - y) (l := u + c.toNat - v - 1) (by omega) (by omega) (by omega) (by omega)
    · rw [if_neg (by omega)]
      exact ofInt_eq_bcd (h := x - y) (l := u + c.toNat - v - 1) (by omega) (by omega) (by omega) (by omega)

end Digits

end Sys2Proof.Machine

namespace Sys2Proof.Proofs

open Sys2Proof.Machine Sys2Proof.Claims

/-- Settles O36: value and carry are the sum modulo 256 and its overflow; V is `binaryAdc_v_iff`. -/
theorem binaryAdcIsExact : Obligations.BinaryAdcIsExact := by
  intro a m c r
  refine ⟨?_, binaryAdc_v_iff a m c, rfl, beq_iff_eq⟩
  have hvalue : r.value.toNat = (a.toNat + m.toNat + c.toNat) % 256 := binaryAdc_toNat a m c
  have hcarry : r.c = decide (a.toNat + m.toNat + c.toNat > 255) := binaryAdc_c a m c
  have ha := a.isLt
  have hm := m.isLt
  have hc := c.toNat_le
  rw [hvalue, hcarry]
  by_cases h : a.toNat + m.toNat + c.toNat > 255
  · rw [decide_eq_true h, Bool.toNat_true]
    omega
  · rw [decide_eq_false h, Bool.toNat_false]
    omega

/-- Settles O37: the difference modulo 256 and its borrow; the rest is the addition of the complement. -/
theorem binarySbcIsExact : Obligations.BinarySbcIsExact := by
  intro a m c r
  refine ⟨?_, binarySbc_v_iff a m c, binarySbc_eq_binaryAdc a m c⟩
  have hvalue : (r.value.toNat : Int) = ((a.toNat : Int) - m.toNat - (1 - c.toNat)) % 256 := binarySbc_toNat a m c
  have hcarry : r.c = decide ((a.toNat : Int) - m.toNat - (1 - c.toNat) ≥ 0) := rfl
  have ha := a.isLt
  have hm := m.isLt
  have hc := c.toNat_le
  rw [hvalue, hcarry]
  simp only [decide_eq_true_eq]
  split <;> omega

/-- Settles O59: `decimalAdc_eq` and `decimalSbc_eq`; the low digits are the model's up to the order of the carry. -/
theorem decimalInstanceOnAllBytes : Obligations.DecimalInstanceOnAllBytes := by
  intro a m c units corrected sum signedSum borrow lower adjusted whole difference
  have hlow : decimalSbcLow a m c = adjusted := by
    have hl : (a.toNat % 16 : Nat) - (m.toNat % 16 : Nat) + c.toNat - 1 = lower := by omega
    rw [decimalSbcLow]
    simp only [hl]
    rfl
  refine ⟨decimalAdc_eq a m c, ?_⟩
  have h := decimalSbc_eq a m c
  rw [hlow] at h
  exact h

/-- Settles O38: on packed BCD the corrected sum and difference are those of the numbers. -/
theorem decimalModeAddsAndSubtractsBcd : Obligations.DecimalModeAddsAndSubtractsBcd := by
  intro a m c ha hm sum difference
  obtain ⟨x, u, hx, hu, rfl⟩ := exists_digits ha
  obtain ⟨y, v, hy, hv, rfl⟩ := exists_digits hm
  obtain ⟨hav, hac⟩ := decimalAdc_bcd hx hu hy hv c
  obtain ⟨hsv, hsc⟩ := decimalSbc_bcd hx hu hy hv c
  exact ⟨hav, hac, hsv, hsc⟩

end Sys2Proof.Proofs
end

section
/-! The families of `47_control.md`, `48_branch_flags.md`, `60_exceptions.md` and `70_reset_and_hazards.md`: jumps, calls
and returns (R260 to R265), branches (R280 to R288), interrupts (R313 to R322) and reset (R350). -/

namespace Sys2Proof.Machine

open Claims

/-! ### The stack as slots -/

theorem toNat_stackAddress (sp : Byte) : (stackAddress sp).toNat = 256 + sp.toNat := by
  have h := sp.isLt
  rw [stackAddress, toNat_add_zext16]
  change (256 + sp.toNat) % 65536 = _
  omega

theorem toNat_stackSlot (s : State) (k : Nat) :
    (stackSlot s k).toNat = 256 + (s.sp - BitVec.ofNat 8 k).toNat := toNat_stackAddress _

/-- The first slots of the stack are different addresses. -/
theorem stackSlots_distinct (s : State) :
    stackSlot s 0 ≠ stackSlot s 1 ∧ stackSlot s 0 ≠ stackSlot s 2 ∧ stackSlot s 1 ≠ stackSlot s 2 := by
  have h := s.sp.isLt
  simp only [ne_eq, ← BitVec.toNat_inj, toNat_stackSlot, BitVec.toNat_sub, Byte.toNat_ofNat]
  omega

/-- The slots are in page 1. -/
theorem stackSlot_lt (s : State) (k : Nat) : 256 ≤ (stackSlot s k).toNat ∧ (stackSlot s k).toNat < 512 := by
  have h := (s.sp - BitVec.ofNat 8 k).isLt
  rw [toNat_stackSlot]
  omega

/-- With S `k + j` lower than in `s`, the address `j` above it is slot `k` of `s`. -/
theorem stackAddress_above {s t : State} {k j : Nat} (ht : t.sp = s.sp - BitVec.ofNat 8 (k + j)) :
    stackAddress (t.sp + BitVec.ofNat 8 j) = stackSlot s k := by
  rw [ht, BitVec.ofNat_add, ← BitVec.sub_sub, BitVec.sub_add_cancel]
  rfl

/-- A read does not look at P. -/
theorem busRead_setP (addr : Word) (p : Status) (s : State) :
    (s.setP p).busRead addr = ((s.busRead addr).1, (s.busRead addr).2.setP p) := by
  unfold State.busRead
  rw [State.setP_map]
  cases kindAt s.map addr <;> rfl

/-- Pulling a word is reading a pair of slots, and S two higher. -/
theorem pullWord_eq_slots (s : State) :
    s.pullWord = ((s.readPair (stackAddress (s.sp + 1)) (stackAddress (s.sp + 2))).1,
      (afterRead s (s.readPair (stackAddress (s.sp + 1)) (stackAddress (s.sp + 2))).2).setSp (s.sp + 2)) := by
  have hsp : s.sp + 1 + 1 = s.sp + 2 := BitVec.add_assoc _ _ _
  rw [← (readPair_readOnly _ _ s).eq_afterRead]
  simp only [State.pullWord, State.pull, State.readPair, State.setSp_sp, busRead_setSp, hsp]
  rfl

/-- A word pulled from RAM or ROM. -/
theorem pullWord_stored {s : State} (hl : s.stored (stackAddress (s.sp + 1)))
    (hh : s.stored (stackAddress (s.sp + 2))) :
    s.pullWord = (word (s.mem.read (stackAddress (s.sp + 2)).toNat) (s.mem.read (stackAddress (s.sp + 1)).toNat),
      s.setSp (s.sp + 2)) := by
  rw [pullWord_eq_slots, readPair_stored hl hh]
  rfl

/-- What a word pushed on RAM leaves in memory. -/
theorem pushWord_mem_ram {s : State} (h0 : kindAt s.map (stackSlot s 0) = .ram)
    (h1 : kindAt s.map (stackSlot s 1) = .ram) (w : Word) : (s.pushWord w).mem =
      (s.mem.write (stackSlot s 0).toNat (hiByte w)).write (stackSlot s 1).toNat (loByte w) := by
  have h1' : kindAt (s.busWrite (stackSlot s 0) (hiByte w)).map (stackSlot s 1) = .ram := by rwa [busWrite_map]
  rw [pushWord_eq_slots, State.setSp_mem, busWrite_ram h1', busWrite_ram h0]

/-- The same of an interrupt sequence. -/
theorem interruptSequence_mem_ram {s : State} (hs : stackRam s) (ret : Word) (b : Bool) (vector : Word) :
    (s.interruptSequence ret b vector).mem =
      ((s.mem.write (stackSlot s 0).toNat (hiByte ret)).write (stackSlot s 1).toNat (loByte ret)).write
        (stackSlot s 2).toNat (s.p.toByte b) := by
  obtain ⟨h0, h1, h2⟩ := hs
  have h2' : kindAt (s.pushWord ret).map (stackSlot s 2) = .ram := by rwa [pushWord_map]
  have hslot : stackAddress (s.pushWord ret).sp = stackSlot s 2 := by
    rw [pushWord_sp]
    rfl
  rw [interruptSequence_mem, push_mem, hslot, busWrite_ram h2', pushWord_mem_ram h0 h1]

/-- The bytes that an interrupt sequence leaves in the three slots. -/
theorem interruptSequence_read_slots {s : State} (hwf : s.mem.wf) (hs : stackRam s) (ret : Word) (b : Bool)
    (vector : Word) :
    (s.interruptSequence ret b vector).mem.read (stackSlot s 0).toNat = hiByte ret ∧
      (s.interruptSequence ret b vector).mem.read (stackSlot s 1).toNat = loByte ret ∧
      (s.interruptSequence ret b vector).mem.read (stackSlot s 2).toNat = s.p.toByte b := by
  obtain ⟨h01, h02, h12⟩ := stackSlots_distinct s
  rw [ne_eq, ← BitVec.toNat_inj] at h01 h02 h12
  have hwf0 := Memory.write_wf hwf (stackSlot s 0).isLt (hiByte ret)
  have hwf1 := Memory.write_wf hwf0 (stackSlot s 1).isLt (loByte ret)
  rw [interruptSequence_mem_ram hs]
  refine ⟨?_, ?_, Memory.read_write_same hwf1 _ _⟩
  · rw [Memory.read_write_other _ _ h02, Memory.read_write_other _ _ h01, Memory.read_write_same hwf]
  · rw [Memory.read_write_other _ _ h12, Memory.read_write_same hwf0]

/-! ### The interrupt sequence in the claims' words -/

theorem interruptSequence_eq_entered (ret : Word) (b : Bool) (vector : Word) (s : State) :
    s.interruptSequence ret b vector = entered ret b vector s := by
  have hpushed : ((s.pushWord ret).push (s.p.toByte b)).setP { s.p with i := true } = entryPushed ret b s := by
    rw [pushWord_push_eq_slots]
    rfl
  have hcycles : (entryPushed ret b s).cycles = s.cycles := by
    rw [← hpushed, State.setP_cycles, push_cycles, pushWord_cycles]
  have hread := readPair_readOnly vector (vector + 1) (entryPushed ret b s)
  simp only [State.interruptSequence, push_p, pushWord_p, hpushed, State.readWord, entered]
  rw [hread.eq_afterRead, ← hcycles]
  rfl

/-- The vector is read after the pushes. -/
theorem interruptSequence_pc {s : State} {ret vector : Word} {b : Bool} (hl : s.stored vector)
    (hh : s.stored (vector + 1)) :
    (s.interruptSequence ret b vector).pc =
      word ((s.interruptSequence ret b vector).mem.read (vector + 1).toNat)
        ((s.interruptSequence ret b vector).mem.read vector.toNat) := by
  obtain ⟨t, -, he⟩ := interruptSequence_eq ret b vector s
  have hstored : ∀ a, s.stored a → (((s.pushWord ret).push (s.p.toByte b)).setP { s.p with i := true }).stored a := by
    intro a ha
    rwa [State.stored, State.setP_map, push_map, pushWord_map]
  rw [interruptSequence_mem, he, State.tick_pc, State.setPc_pc, State.readWord,
    readPair_stored (hstored _ hl) (hstored _ hh), State.setP_mem]

/-- A return from interrupt as reads of the three slots above S. -/
theorem returnFromInterrupt_eq_slots (s : State) :
    let status := s.busRead (stackAddress (s.sp + 1))
    let target := status.2.readPair (stackAddress (s.sp + 2)) (stackAddress (s.sp + 3))
    s.returnFromInterrupt =
      { afterRead s target.2 with
        sp := s.sp + 3, p := Status.ofByte status.1, pc := target.1, cycles := s.cycles + 6 } := by
  intro status target
  have h12 : s.sp + 1 + 1 = s.sp + 2 := BitVec.add_assoc _ _ _
  have h23 : s.sp + 2 + 1 = s.sp + 3 := BitVec.add_assoc _ _ _
  have hread : ReadOnly s target.2 := (busRead_readOnly _ s).trans (readPair_readOnly _ _ _)
  rw [← hread.eq_afterRead, ← hread.cycles]
  simp only [status, target, State.readPair, State.returnFromInterrupt, State.pullWord, State.pull, busRead_setSp,
    busRead_setP, State.setSp_sp, State.setP_sp, h12, h23]
  simp only [State.setSp, State.setP, State.setPc, State.tick]

/-- A return from interrupt on a stack of RAM or ROM. -/
theorem returnFromInterrupt_stored {s : State} (h1 : s.stored (stackAddress (s.sp + 1)))
    (h2 : s.stored (stackAddress (s.sp + 2))) (h3 : s.stored (stackAddress (s.sp + 3))) :
    s.returnFromInterrupt =
      { s with
        sp := s.sp + 3
        p := Status.ofByte (s.mem.read (stackAddress (s.sp + 1)).toNat)
        pc := word (s.mem.read (stackAddress (s.sp + 3)).toNat) (s.mem.read (stackAddress (s.sp + 2)).toNat)
        cycles := s.cycles + 6 } := by
  rw [returnFromInterrupt_eq_slots, busRead_stored h1, readPair_stored h2 h3]
  rfl

/-! ### Branches -/

theorem toNat_branchTarget (pc : Word) (r : Byte) :
    ((branchTarget pc r).toNat : Int) = (((pc.toNat + 2) % 65536 : Nat) + r.toInt) % 65536 := by
  have hnext : (pc + 2).toNat = (pc.toNat + 2) % 65536 := BitVec.toNat_add pc 2
  rw [branchTarget, BitVec.toNat_add, hnext, sext16_eq_ofInt, BitVec.toNat_ofInt]
  omega

/-- A branch in numbers: the signed displacement from the next instruction, and the cycles (R112, R280). -/
theorem branch_eq (taken : Bool) (r : Byte) (s : State) :
    let next : Nat := (s.pc.toNat + 2) % 65536
    let target : Nat := (((next : Int) + r.toInt) % 65536).toNat
    branch taken r s =
      { s with
        pc := BitVec.ofNat 16 (if taken then target else next)
        cycles := s.cycles + 2 + taken.toNat + (taken && decide (target / 256 ≠ next / 256)).toNat } := by
  intro next target
  have hnext : (s.pc + 2).toNat = next := BitVec.toNat_add s.pc 2
  have htarget : (branchTarget s.pc r).toNat = target := by
    have h := toNat_branchTarget s.pc r
    omega
  have hcross : pageCrossed (s.pc + 2) (branchTarget s.pc r) = decide (target / 256 ≠ next / 256) := by
    rw [Bool.eq_iff_iff, pageCrossed_iff, hnext, htarget, decide_eq_true_iff]
  have hpcNext : s.pc + 2 = BitVec.ofNat 16 next := by rw [← hnext, BitVec.ofNat_toNat, BitVec.setWidth_eq]
  have hpcTarget : branchTarget s.pc r = BitVec.ofNat 16 target := by
    rw [← htarget, BitVec.ofNat_toNat, BitVec.setWidth_eq]
  have hpc : (if taken then branchTarget s.pc r else s.pc + 2) = BitVec.ofNat 16 (if taken then target else next) := by
    cases taken
    · exact hpcNext
    · exact hpcTarget
  have hcycles : branchCycles taken (s.pc + 2) (branchTarget s.pc r) =
      2 + taken.toNat + (taken && decide (target / 256 ≠ next / 256)).toNat := by
    rw [← hcross]
    cases taken <;> rfl
  rw [branch, ← hpc, Nat.add_assoc s.cycles, Nat.add_assoc s.cycles, ← hcycles]
  rfl

end Sys2Proof.Machine

namespace Sys2Proof.Proofs

open Sys2Proof.Machine Sys2Proof.Claims

/-! ### Jumps, calls and branches -/

/-- Settles O45: the second pointer byte is in the page of the first, with no carry. -/
theorem jumpsSetPc : Obligations.JumpsSetPc := by
  intro s w hi
  have hread := readIndirect_readOnly w s
  refine ⟨rfl, rfl, rfl, ⟨jmpIndirect w s, rfl, ?_⟩, fun hl hh => ?_⟩
  · rw [jmpIndirect, hread.eq_afterRead]
    rfl
  · have hlt := w.isLt
    have haddr : word (hiByte w) (loByte w + 1) = BitVec.ofNat 16 hi := by
      apply BitVec.eq_of_toNat_eq
      rw [toNat_word, BitVec.toNat_add, toNat_hiByte, toNat_loByte, BitVec.toNat_ofNat]
      change _ + (_ + 1) % 256 = _
      omega
    have hhi : (BitVec.ofNat 16 hi).toNat = hi := by
      rw [BitVec.toNat_ofNat]
      omega
    have hpc : word (s.mem.read hi) (s.mem.read w.toNat) =
        BitVec.ofNat 16 ((s.mem.read hi).toNat * 256 + (s.mem.read w.toNat).toNat) := by
      rw [← toNat_word, BitVec.ofNat_toNat, BitVec.setWidth_eq]
    rw [exec_eq_meaning, ← hpc]
    change Host.Outcome.next (jmpIndirect w s) = _
    rw [jmpIndirect, readIndirect, haddr, readPair_stored hl hh, hhi]
    rfl

/-- Settles O46: the pushes and the pulls as their slots. -/
theorem callAndReturnMovePcAndStack : Obligations.CallAndReturnMovePcAndStack := by
  intro s w ret called pulled
  refine ⟨rfl, rfl, ?jsr, ?rts⟩
  case jsr =>
    have hcycles : (s.pushWord ret).cycles = s.cycles := pushWord_cycles ret s
    change Host.Outcome.next (jsr w s) = _
    rw [jsr, State.tick, State.setPc_cycles, hcycles, pushWord_eq_slots]
    rfl
  case rts =>
    change Host.Outcome.next (rts s) = _
    rw [rts, pullWord_eq_slots]
    rfl

/-- Settles O47: the return address is what the call left in the two slots, and PC goes one past it. -/
theorem returnAfterCallComesBack : Obligations.ReturnAfterCallComesBack := by
  intro s w hwf h0 h1
  obtain ⟨h01, -, -⟩ := stackSlots_distinct s
  rw [ne_eq, ← BitVec.toNat_inj] at h01
  have hsp : (jsr w s).sp = s.sp - 2 := pushWord_sp _ s
  have hmap : (jsr w s).map = s.map := pushWord_map _ s
  have hslot1 : stackAddress ((jsr w s).sp + 1) = stackSlot s 1 := stackAddress_above (k := 1) (j := 1) hsp
  have hslot0 : stackAddress ((jsr w s).sp + 2) = stackSlot s 0 := stackAddress_above (k := 0) (j := 2) hsp
  have hstored1 : (jsr w s).stored (stackAddress ((jsr w s).sp + 1)) := by
    rw [hslot1, State.stored, hmap]
    exact .inl h1
  have hstored0 : (jsr w s).stored (stackAddress ((jsr w s).sp + 2)) := by
    rw [hslot0, State.stored, hmap]
    exact .inl h0
  have hmem : (jsr w s).mem = _ := pushWord_mem_ram h0 h1 (s.pc + 2)
  have hwf0 := Memory.write_wf hwf (stackSlot s 0).isLt (hiByte (s.pc + 2))
  have hpull : (jsr w s).pullWord = (s.pc + 2, (jsr w s).setSp s.sp) := by
    rw [pullWord_stored hstored1 hstored0, hslot0, hslot1, hmem, Memory.read_write_same hwf0,
      Memory.read_write_other _ _ h01, Memory.read_write_same hwf, word_hiByte_loByte, hsp, BitVec.sub_add_cancel]
  have hpc : s.pc + 2 + 1 = s.pc + 3 := BitVec.add_assoc _ _ _
  have hrts : rts (jsr w s) = (((jsr w s).setSp s.sp).setPc (s.pc + 3)).tick 6 := by
    simp only [rts, hpull, hpc]
  refine ⟨jsr w s, rts (jsr w s), rfl, rfl, rfl, ?_⟩
  rw [hrts]
  simp [jsr]

/-- Settles O48: BRK is the interrupt sequence, RTI its three pulls as reads of their slots. -/
theorem breakAndReturnFromInterrupt : Obligations.BreakAndReturnFromInterrupt := by
  refine ⟨rfl, rfl, fun s => ⟨?brk, ?rti⟩⟩
  case brk => exact congrArg Host.Outcome.next (interruptSequence_eq_entered _ _ _ s)
  case rti => exact congrArg Host.Outcome.next (returnFromInterrupt_eq_slots s)

/-- Settles O49: each branch is `branch_eq` at its test. -/
theorem branchesTestOneFlag : Obligations.BranchesTestOneFlag := by
  intro s r next target go
  have h : ∀ taken, branch taken r s = go taken := fun taken => branch_eq taken r s
  simp only [← h]
  exact ⟨rfl, rfl, rfl, rfl, rfl, rfl, rfl, rfl⟩

/-! ### Interrupts and reset -/

/-- Settles O52: the third and the fourth outcome of a boundary. -/
theorem interruptsEnterThroughTheirVectors : Obligations.InterruptsEnterThroughTheirVectors := by
  intro s hr hh
  refine ⟨fun hn => ?nmi, fun hp hn hi hm => ?irq⟩
  case nmi =>
    have hpending : (s.dropSample.latchNmi s.sample.nmi).nmiPending = true := by
      rcases hn with h | h <;> simp [State.latchNmi, State.dropSample, h]
    have hhalted : (s.dropSample.latchNmi s.sample.nmi).halted = false := hh
    have hb : s.boundary = .event (s.dropSample.latchNmi s.sample.nmi).takeNmi := by
      simp [State.boundary, hr, hhalted, hpending]
    rw [step_of_event hb]
    exact congrArg Host.Outcome.next (interruptSequence_eq_entered _ _ _ _)
  case irq =>
    have hlive : s.dropSample.latchNmi s.sample.nmi = { s with inputs := s.inputs.tail } := by
      rw [State.latchNmi, hn, Bool.or_false]
      rfl
    have hb : s.boundary = .event (State.takeIrq { s with inputs := s.inputs.tail }) := by
      simp [State.boundary, hr, hlive, hh, hp, hi, hm]
    rw [step_of_event hb]
    exact congrArg Host.Outcome.next (interruptSequence_eq_entered _ _ _ _)

/-- Settles O53: the bytes in the slots, the frame of the stores, and the word at a vector that is no slot. -/
theorem interruptSequenceSavesPcAndStatus : Obligations.InterruptSequenceSavesPcAndStatus := by
  intro s ret vector b hwf hs hl hh hvector t
  obtain ⟨h0, h1, h2⟩ := interruptSequence_read_slots hwf hs ret b vector
  have hframe : ∀ addr : Word, addr ∉ [stackSlot s 0, stackSlot s 1, stackSlot s 2] →
      t.mem.read addr.toNat = s.mem.read addr.toNat := fun addr ha =>
    (interruptSequence_storesOnly ret b vector s).2.read_other (.inl ha)
  have hno : ∀ addr : Word, 512 ≤ addr.toNat ∨ addr.toNat < 256 →
      addr ∉ [stackSlot s 0, stackSlot s 1, stackSlot s 2] := by
    intro addr ha hmem
    simp only [List.mem_cons, List.not_mem_nil, or_false] at hmem
    rcases hmem with rfl | rfl | rfl
    · have := stackSlot_lt s 0
      omega
    · have := stackSlot_lt s 1
      omega
    · have := stackSlot_lt s 2
      omega
  have hlast : (vector + 1).toNat = (vector.toNat + 1) % 65536 := BitVec.toNat_add vector 1
  have hpc : t.pc = s.mem.read (vector + 1).toNat ++ s.mem.read vector.toNat := by
    rw [← hframe _ (hno (vector + 1) (by omega)), ← hframe _ (hno vector (by omega))]
    exact interruptSequence_pc hl hh
  exact ⟨h0, h1, h2, hframe, interruptSequence_sp ret b vector s, interruptSequence_p ret b vector s, hpc,
    interruptSequence_a ret b vector s, interruptSequence_x ret b vector s, interruptSequence_y ret b vector s,
    interruptSequence_halted ret b vector s, interruptSequence_nmiPending ret b vector s⟩

/-- Settles O54: the return pulls the three bytes that the sequence left in the slots. -/
theorem returnFromInterruptRestores : Obligations.ReturnFromInterruptRestores := by
  intro s ret vector b hwf hs
  obtain ⟨hread0, hread1, hread2⟩ := interruptSequence_read_slots hwf hs ret b vector
  obtain ⟨h0, h1, h2⟩ := hs
  have hsp := interruptSequence_sp ret b vector s
  have hmap := interruptSequence_map ret b vector s
  have hslot2 : stackAddress ((s.interruptSequence ret b vector).sp + 1) = stackSlot s 2 :=
    stackAddress_above (k := 2) (j := 1) hsp
  have hslot1 : stackAddress ((s.interruptSequence ret b vector).sp + 2) = stackSlot s 1 :=
    stackAddress_above (k := 1) (j := 2) hsp
  have hslot0 : stackAddress ((s.interruptSequence ret b vector).sp + 3) = stackSlot s 0 :=
    stackAddress_above (k := 0) (j := 3) hsp
  have hstored : ∀ a, kindAt s.map a = .ram → (s.interruptSequence ret b vector).stored a := fun a ha =>
    .inl (hmap ▸ ha)
  have hrti := returnFromInterrupt_stored (hslot2 ▸ hstored _ h2) (hslot1 ▸ hstored _ h1) (hslot0 ▸ hstored _ h0)
  rw [hslot2, hslot1, hslot0, hread2, hread1, hread0, Status.ofByte_toByte, word_hiByte_loByte, hsp,
    BitVec.sub_add_cancel] at hrti
  refine ⟨_, congrArg Host.Outcome.next hrti, ?_⟩
  simp only [interruptSequence_a, interruptSequence_x, interruptSequence_y, and_self]

/-- Settles O55: the boundary with RESET, whose sequence changes registers, PC and cycles alone. -/
theorem resetSequenceLeaves : Obligations.ResetSequenceLeaves := by
  intro s hr
  have h := resetSequence_readOnly s.dropSample
  refine ⟨_, step_of_event (boundary_reset hr), h.halted, h.nmiPending, ?_, h.mem, h.map, h.inputs, h.cycles, ?_⟩
  · rw [h.p]
    rfl
  · intro hl hh
    have hread : s.dropSample.resetRegisters.readWord resetVector =
        (word (s.mem.read 0xFFFD) (s.mem.read 0xFFFC), s.dropSample.resetRegisters) := readPair_stored hl hh
    simp only [State.resetSequence, hread]
    exact ⟨rfl, rfl⟩

/-- Settles O56: the fields of the reset state. -/
theorem resetStateIsAsTheSpecGivesIt : Obligations.ResetStateIsAsTheSpecGivesIt := ⟨rfl, rfl, rfl, rfl, rfl⟩

end Sys2Proof.Proofs
end
